-- ==== Sys2Proof/Word.lean ====
section
/-! DEFINITION. The word types of the block (00_scope.md rule R6): register values and bank cells
are 32-bit words, the media are byte stores, flash-space offsets have 20 bits. -/

namespace Sys2Proof

/-- A register value or a bank cell (rule R6). -/
abbrev Word := BitVec 32

/-- A byte of a bank or of the backing medium. -/
abbrev Byte := BitVec 8

/-- A byte offset in the logical flash space, `0 <= off < 0x100000` (rule R31). -/
abbrev FlashOffset := BitVec 20

/-- The selection key `K = {sel, data}` of rule R51. -/
abbrev Key := BitVec 64

end Sys2Proof
end

