-- ==== Sys2Proof/Config.lean ====
section
/-! DEFINITION. What the hardware fixes: the parameters of 00_scope.md rule R4, the literals of
93_implementation_defined.md section 4 (each one definition, so that an audit changes one place),
the parameters the spec leaves OPEN, and the model's one free value. -/

namespace Sys2Proof.Config

/-! ### Geometry (rule R4) -/

@[simp] abbrev pageSize : Nat := 2048
@[simp] abbrev pagesPerBank : Nat := 256
/-- `PAGES_PER_BANK × PAGE_SIZE` = 0x80000 bytes. -/
@[simp] abbrev bankSize : Nat := 0x80000
/-- `2 × BANK_SIZE` = 0x100000 bytes: the logical flash space. -/
@[simp] abbrev flashSize : Nat := 0x100000
/-- The medium is exactly `2 × BANK_SIZE` bytes (rules R4, R130). -/
@[simp] abbrev mediumSize : Nat := 0x100000
@[simp] abbrev flashBase : Nat := 0x08000000
/-- The erased pattern, as a byte and as a word (rules R4, R8). -/
@[simp] abbrev erasedByte : Byte := 0xFF#8
@[simp] abbrev erasedWord : Word := 0xFFFFFFFF#32

/-! ### Unlock keys (rules R4, R56) -/

@[simp] abbrev key1 : Word := 0x45670123#32
@[simp] abbrev key2 : Word := 0xCDEF89AB#32

/-! ### Register map (30_encoding.md rule R52) -/

@[simp] abbrev acrOffset : Word := 0x00#32
@[simp] abbrev keyrOffset : Word := 0x08#32
@[simp] abbrev srOffset : Word := 0x10#32
@[simp] abbrev crOffset : Word := 0x14#32

/-! ### Bits of CR (10_state.md rule R11)

`pnbLo` and `pnbWidth` are the spec's own choice (decision D10, general knowledge G1): log 10. -/

@[simp] abbrev crPg : Nat := 0
@[simp] abbrev crPer : Nat := 1
@[simp] abbrev crMer1 : Nat := 2
@[simp] abbrev pnbLo : Nat := 3
@[simp] abbrev pnbWidth : Nat := 8
@[simp] abbrev crBker : Nat := 11
@[simp] abbrev crMer2 : Nat := 15
@[simp] abbrev crStrt : Nat := 16
@[simp] abbrev crLock : Nat := 31
@[simp] abbrev crStrtMask : Word := 0x00010000#32
@[simp] abbrev crLockMask : Word := 0x80000000#32

/-! ### Bits of SR (10_state.md rule R12) -/

@[simp] abbrev srEop : Nat := 0
@[simp] abbrev srProgErr : Nat := 3
@[simp] abbrev srBsy : Nat := 16
@[simp] abbrev srEopMask : Word := 0x00000001#32
@[simp] abbrev srProgErrMask : Word := 0x00000008#32
@[simp] abbrev srBsyMask : Word := 0x00010000#32

/-! ### Open parameters

`REG_BASE` and `REG_SIZE` are OPEN (decisions D2, D3); no rule depends on either, so no definition
of the model reads them (log 24). -/

opaque regBase : Nat
opaque regSize : Nat

/-! ### The free value

The byte the medium holds at offset `moff` of the range that its `k`-th failed write addressed:
"unspecified, any bytes" (20_memory.md rule R43, decision D19). No body: nothing can be proved of
it (log 7). -/

opaque failedMediumByte (k moff : Nat) : Byte

end Sys2Proof.Config
end

