-- ==== Sys2Proof/Syntax.lean ====
section
/-! DEFINITION. The operations of the block (30_encoding.md rules R50, R60): one constructor for
each row of opcode_table.json, in the table's order. -/

namespace Sys2Proof

/-- The width of a flash read: 1, 2 or 4 bytes (20_memory.md rule R37, decision D14). -/
inductive Width where
  | byte
  | half
  | word
  deriving DecidableEq, Repr

/-- The number of bytes of a width. -/
def Width.bytes : Width → Nat
  | .byte => 1
  | .half => 2
  | .word => 4

/-- What the host supplies with an ATTACH (43_bank_storage_boot_remap.md rule R130; log 26). -/
inductive MediumArg where
  /-- The medium as the host holds it, unchanged since the last attachment (rule R136). -/
  | same
  /-- No medium. -/
  | absent
  /-- A medium of `size` bytes with this content: the listed bytes, every other byte 0xFF. -/
  | image (writable : Bool) (size : Nat) (cells : List Host.Cell)
  deriving DecidableEq, Repr

/-- The operations and sub-operations (rule R60), one constructor per row of the table. -/
inductive Instr where
  /-- `ACR_RD`, rule R71. -/
  | acrRd
  /-- `ACR_WR`, rule R72. -/
  | acrWr (data : Word)
  /-- `KEYR_RD`, rule R73. -/
  | keyrRd
  /-- `KEYR_WR`, rule R74. -/
  | keyrWr (data : Word)
  /-- `KEYR_WR.KEY1`, rule R75. -/
  | keyrWrKey1
  /-- `KEYR_WR.KEY2`, rule R76. -/
  | keyrWrKey2
  /-- `KEYR_WR.OTHER`, rule R77. -/
  | keyrWrOther (data : Word)
  /-- `SR_WR`, rule R78. -/
  | srWr (data : Word)
  /-- `SR_RD`, rule R79. -/
  | srRd
  /-- `CR_WR`, rule R80. -/
  | crWr (data : Word)
  /-- `CR_WR.LOCK`, rule R81. -/
  | crWrLock (data : Word)
  /-- `CR_WR.STORE`, rule R82. -/
  | crWrStore (data : Word)
  /-- `CR_WR.STRT_LOCKED`, rule R83. -/
  | crWrStrtLocked (data : Word)
  /-- `CR_WR.PER`, rule R84. -/
  | crWrPer (data : Word)
  /-- `CR_WR.MER1`, rule R85. -/
  | crWrMer1 (data : Word)
  /-- `CR_WR.MER2`, rule R86. -/
  | crWrMer2 (data : Word)
  /-- `CR_RD`, rule R87. -/
  | crRd
  /-- `UNK_RD`, rule R88. -/
  | unkRd (roff : Word)
  /-- `UNK_WR`, rule R89. -/
  | unkWr (roff data : Word)
  /-- `FLASH_WR`, rule R100. -/
  | flashWr (off : FlashOffset) (data : Word)
  /-- `FLASH_RD`, rule R134. -/
  | flashRd (off : FlashOffset) (n : Width)
  /-- `ATTACH`, rule R130. -/
  | attach (m : MediumArg)
  /-- `RESET`, rule R170. -/
  | reset
  /-- `DETACH`, rule R135. -/
  | detach
  deriving DecidableEq, Repr

/-- The rows of kind "sub-operation" (rules R51, R61): steps that a register write performs. A row
of kind "operation" or "default" is a whole transaction or event. -/
def Instr.isSubOperation : Instr → Bool
  | .keyrWrKey1 | .keyrWrKey2 | .keyrWrOther _ => true
  | .crWrLock _ | .crWrStore _ | .crWrStrtLocked _ => true
  | .crWrPer _ | .crWrMer1 _ | .crWrMer2 _ => true
  | .acrRd | .acrWr _ | .keyrRd | .keyrWr _ | .srWr _ | .srRd | .crWr _ | .crRd => false
  | .unkRd _ | .unkWr _ _ | .flashWr _ _ | .flashRd _ _ => false
  | .attach _ | .reset | .detach => false

end Sys2Proof
end

