-- ==== Sys2Proof/WellFormed.lean ====
section
/-! DEFINITION. Which terms of `Instr` stand for an operation of the block: the operands lie in the
ranges of 30_encoding.md rules R50, R51, R52 and the row's match and mask hold of the key. -/

namespace Sys2Proof

/-- An aligned register offset that is none of the four named ones (rules R52, R36). -/
def isUnknownOffset (roff : Word) : Bool :=
  roff.toNat % 4 == 0 && roff != Config.acrOffset && roff != Config.keyrOffset &&
    roff != Config.srOffset && roff != Config.crOffset

/-- A content listing in canonical form: addresses strictly rising and below `size`, no listed
byte equal to the erased pattern (log 26). Addresses are below 2^24, which every medium that can
attach satisfies. -/
abbrev canonicalCells (size : Nat) (cells : List Host.Cell) : Prop :=
  cells.Pairwise (fun a b => a.1 < b.1) ∧
    ∀ c ∈ cells, c.2 ≠ Config.erasedByte ∧ c.1 < size ∧ c.1 < 0x1000000

/-- The conditions that the table's rows put on the operands. -/
def Instr.wellFormed : Instr → Bool
  | .acrRd => true
  | .acrWr _ => true
  | .keyrRd => true
  | .keyrWr _ => true
  | .keyrWrKey1 => true
  | .keyrWrKey2 => true
  | .keyrWrOther data => data != Config.key1 && data != Config.key2
  | .srWr _ => true
  | .srRd => true
  | .crWr _ => true
  | .crWrLock data => data.getLsbD Config.crLock
  | .crWrStore data => !data.getLsbD Config.crLock
  | .crWrStrtLocked data => !data.getLsbD Config.crLock && data.getLsbD Config.crStrt
  | .crWrPer data =>
    !data.getLsbD Config.crLock && data.getLsbD Config.crStrt && data.getLsbD Config.crPer
  | .crWrMer1 data =>
    !data.getLsbD Config.crLock && data.getLsbD Config.crStrt && data.getLsbD Config.crMer1
  | .crWrMer2 data =>
    !data.getLsbD Config.crLock && data.getLsbD Config.crStrt && data.getLsbD Config.crMer2
  | .crRd => true
  | .unkRd roff => isUnknownOffset roff
  | .unkWr roff _ => isUnknownOffset roff
  | .flashWr _ _ => true
  | .flashRd off n => decide (off.toNat + n.bytes ≤ Config.flashSize)
  | .attach .same => true
  | .attach .absent => true
  | .attach (.image _ size cells) => decide (size < 2 ^ 32) && decide (canonicalCells size cells)
  | .reset => true
  | .detach => true

end Sys2Proof
end

