-- ==== Sys2Proof/Decode.lean ====
section
/-! DEFINITION. The decoder, total on any bytes, and after it the encoder.

A request is a list of bytes. Bytes 0 to 3 are `data` and bytes 4 to 7 are `sel` of the key
`K = {sel, data}` (30_encoding.md rule R51), each little-endian. The rest is the model's layout of
what the spec leaves without a number or carries "beside K" (log 2): byte 8 the format, byte 9 the
sub-operation (0 the whole operation), byte 10 the width of an access or the kind of an ATTACH's
medium, byte 11 the medium's read-only flag, bytes 12 to 15 the medium's size, and from byte 16 on
the medium's listed bytes, four bytes each (a 24-bit address and the byte). -/

namespace Sys2Proof

/-- Byte `k` of a word: bits `8k+7 : 8k` (rule R34). -/
def byteOf (w : Word) (k : Nat) : Byte := w.extractLsb' (8 * k) 8

/-- The word whose four bytes, lowest offset first, are these (rule R34). -/
def ofBytes (b0 b1 b2 b3 : Byte) : Word := b3 ++ b2 ++ b1 ++ b0

/-- A word as its four bytes, lowest offset first (rule R34). -/
def wordBytes (w : Word) : List Byte := [byteOf w 0, byteOf w 1, byteOf w 2, byteOf w 3]

/-- Why the decoder refuses a request. All are safe: the spec keeps these out of the block's
contract, or the bytes are no request of the model's layout. -/
inductive DecodeError where
  /-- Fewer than 16 bytes: no request of the layout. -/
  | requestTooShort
  /-- The format byte names none of the five formats of rule R50. -/
  | unknownFormat
  /-- An event code other than 0, 1, 2 (U21). -/
  | unknownEvent
  /-- A byte the layout leaves unused is not zero, or bytes follow the request. -/
  | reservedBitsSet
  /-- The width byte is no width code. -/
  | badWidth
  /-- A register access that is not 32 bits wide (U17, decision D4). -/
  | narrowRegisterAccess
  /-- A register access whose offset is not a multiple of 4 (U17, decision D4). -/
  | misalignedRegisterAccess
  /-- A flash store of 1 or 2 bytes (U18, decision D15). -/
  | narrowFlashStore
  /-- A flash access outside `[0, 0x100000)` (U19, decision D16). -/
  | flashOffsetOutOfRange
  /-- A flash read with `off + n > 0x100000` (U19, decision D14). -/
  | flashReadPastEnd
  /-- A sub-operation byte that names no row, or a key that does not match the row it names. -/
  | noSuchSubOperation
  /-- An ATTACH whose medium operand is no medium of the layout. -/
  | badMediumOperand
  deriving DecidableEq, Repr

/-- The parts of a request, before they are read as an operation. -/
structure RawRequest where
  data : Word
  sel : Word
  format : Byte
  sub : Byte
  width : Byte
  readOnly : Byte
  size : Word
  tail : List Byte
  deriving DecidableEq, Repr

/-- Nothing stands in the bytes that only an ATTACH uses. -/
def RawRequest.noMedium (r : RawRequest) : Bool :=
  r.readOnly == 0#8 && r.size == 0#32 && r.tail.isEmpty

/-- The width codes of log 2: 0 a word, 1 a byte, 2 a half word. -/
def decodeWidth (b : Byte) : Option Width :=
  if b = 0#8 then some .word else if b = 1#8 then some .byte
  else if b = 2#8 then some .half else none

/-- An operation the rows select, provided the rows' conditions hold of it. -/
def checkedSub (i : Instr) : Except DecodeError Instr :=
  if i.wellFormed then .ok i else .error .noSuchSubOperation

/-- The sub-operations of a KEYR write: 1 KEY1, 2 KEY2, 3 OTHER (rules R74 to R77). -/
def decodeKeyrSub (sub : Byte) (data : Word) : Except DecodeError Instr :=
  if sub = 1#8 ∧ data = Config.key1 then .ok .keyrWrKey1
  else if sub = 2#8 ∧ data = Config.key2 then .ok .keyrWrKey2
  else if sub = 3#8 then checkedSub (.keyrWrOther data)
  else .error .noSuchSubOperation

/-- The sub-operations of a CR write, numbered as the lines of rule R61. -/
def decodeCrSub (sub : Byte) (data : Word) : Except DecodeError Instr :=
  if sub = 1#8 then checkedSub (.crWrLock data)
  else if sub = 2#8 then checkedSub (.crWrStore data)
  else if sub = 3#8 then checkedSub (.crWrStrtLocked data)
  else if sub = 4#8 then checkedSub (.crWrPer data)
  else if sub = 5#8 then checkedSub (.crWrMer1 data)
  else if sub = 6#8 then checkedSub (.crWrMer2 data)
  else .error .noSuchSubOperation

/-- A sub-operation of the register write at `sel`. -/
def decodeSub (r : RawRequest) : Except DecodeError Instr :=
  if r.sel = Config.keyrOffset then decodeKeyrSub r.sub r.data
  else if r.sel = Config.crOffset then decodeCrSub r.sub r.data
  else .error .noSuchSubOperation

/-- What every register access must satisfy (rules R36, R37), else the reason it is refused. -/
def registerAccessError (r : RawRequest) : Option DecodeError :=
  if !r.noMedium then some .reservedBitsSet
  else match decodeWidth r.width with
    | none => some .badWidth
    | some .byte => some .narrowRegisterAccess
    | some .half => some .narrowRegisterAccess
    | some .word => if r.sel.toNat % 4 ≠ 0 then some .misalignedRegisterAccess else none

/-- Format `REG_WR` (rules R51, R52). -/
def decodeRegWr (r : RawRequest) : Except DecodeError Instr :=
  match registerAccessError r with
  | some e => .error e
  | none =>
    if r.sub ≠ 0#8 then decodeSub r
    else if r.sel = Config.acrOffset then .ok (.acrWr r.data)
    else if r.sel = Config.keyrOffset then .ok (.keyrWr r.data)
    else if r.sel = Config.srOffset then .ok (.srWr r.data)
    else if r.sel = Config.crOffset then .ok (.crWr r.data)
    else .ok (.unkWr r.sel r.data)

/-- Format `REG_RD`. The rows' masks leave the data part of the key free. -/
def decodeRegRd (r : RawRequest) : Except DecodeError Instr :=
  match registerAccessError r with
  | some e => .error e
  | none =>
    if r.sub ≠ 0#8 then .error .noSuchSubOperation
    else if r.sel = Config.acrOffset then .ok .acrRd
    else if r.sel = Config.keyrOffset then .ok .keyrRd
    else if r.sel = Config.srOffset then .ok .srRd
    else if r.sel = Config.crOffset then .ok .crRd
    else .ok (.unkRd r.sel)

/-- Format `MEM_WR`: 32 bits at any offset of the space, aligned or not (rules R36, R100). -/
def decodeMemWr (r : RawRequest) : Except DecodeError Instr :=
  if !r.noMedium then .error .reservedBitsSet
  else if r.sub ≠ 0#8 then .error .noSuchSubOperation
  else match decodeWidth r.width with
    | none => .error .badWidth
    | some .byte => .error .narrowFlashStore
    | some .half => .error .narrowFlashStore
    | some .word =>
      if r.sel.toNat < Config.flashSize then .ok (.flashWr (r.sel.setWidth 20) r.data)
      else .error .flashOffsetOutOfRange

/-- Format `MEM_RD`: 1, 2 or 4 bytes with `off + n <= 0x100000` (rules R37, R134). -/
def decodeMemRd (r : RawRequest) : Except DecodeError Instr :=
  if !r.noMedium then .error .reservedBitsSet
  else if r.sub ≠ 0#8 then .error .noSuchSubOperation
  else match decodeWidth r.width with
    | none => .error .badWidth
    | some n =>
      if r.sel.toNat < Config.flashSize then
        if r.sel.toNat + n.bytes ≤ Config.flashSize then .ok (.flashRd (r.sel.setWidth 20) n)
        else .error .flashReadPastEnd
      else .error .flashOffsetOutOfRange

/-- A medium's listed bytes: four bytes each, the 24-bit address little-endian, then the byte. -/
def decodeCells : List Byte → Option (List Host.Cell)
  | [] => some []
  | a0 :: a1 :: a2 :: v :: rest =>
    (decodeCells rest).map ((a0.toNat + 256 * a1.toNat + 65536 * a2.toNat, v) :: ·)
  | _ => none

/-- An ATTACH's medium operand (log 2, log 26): kind 0 the same medium, 1 none, 2 an image. -/
def decodeAttach (r : RawRequest) : Except DecodeError Instr :=
  if r.width = 0#8 ∧ r.noMedium then .ok (.attach .same)
  else if r.width = 1#8 ∧ r.noMedium then .ok (.attach .absent)
  else if r.width = 2#8 ∧ (r.readOnly = 0#8 ∨ r.readOnly = 1#8) then
    match decodeCells r.tail with
    | none => .error .badMediumOperand
    | some cells =>
      let i := Instr.attach (.image (r.readOnly == 0#8) r.size.toNat cells)
      if i.wellFormed then .ok i else .error .badMediumOperand
  else .error .badMediumOperand

/-- Format `EVT`: code 0 ATTACH, 1 RESET, 2 DETACH (rule R50). -/
def decodeEvt (r : RawRequest) : Except DecodeError Instr :=
  if r.sub ≠ 0#8 then .error .noSuchSubOperation
  else if r.sel = 0#32 then decodeAttach r
  else if r.sel = 1#32 ∨ r.sel = 2#32 then
    if r.width ≠ 0#8 ∨ !r.noMedium then .error .reservedBitsSet
    else if r.sel = 1#32 then .ok .reset else .ok .detach
  else .error .unknownEvent

/-- The numbers of the five formats of rule R50 (log 2). -/
@[simp] abbrev fmtRegWr : Byte := 0#8
@[simp] abbrev fmtRegRd : Byte := 1#8
@[simp] abbrev fmtMemWr : Byte := 2#8
@[simp] abbrev fmtMemRd : Byte := 3#8
@[simp] abbrev fmtEvt : Byte := 4#8

/-- The five formats of rule R50. -/
def decodeRaw (r : RawRequest) : Except DecodeError Instr :=
  if r.format = fmtRegWr then decodeRegWr r
  else if r.format = fmtRegRd then decodeRegRd r
  else if r.format = fmtMemWr then decodeMemWr r
  else if r.format = fmtMemRd then decodeMemRd r
  else if r.format = fmtEvt then decodeEvt r
  else .error .unknownFormat

/-- The decoder: the operation that a request's bytes ask for, or why they ask for none. -/
def decode : List Byte → Except DecodeError Instr
  | d0 :: d1 :: d2 :: d3 :: s0 :: s1 :: s2 :: s3 ::
      format :: sub :: width :: readOnly :: z0 :: z1 :: z2 :: z3 :: tail =>
    decodeRaw ⟨ofBytes d0 d1 d2 d3, ofBytes s0 s1 s2 s3, format, sub, width, readOnly,
      ofBytes z0 z1 z2 z3, tail⟩
  | _ => .error .requestTooShort

/-! ### The encoder -/

/-- The bytes of a request from its parts. -/
def encodeRaw (r : RawRequest) : List Byte :=
  wordBytes r.data ++ wordBytes r.sel ++ [r.format, r.sub, r.width, r.readOnly] ++
    wordBytes r.size ++ r.tail

def encodeWidth : Width → Byte
  | .word => 0#8
  | .byte => 1#8
  | .half => 2#8

def encodeCells : List Host.Cell → List Byte
  | [] => []
  | (a, v) :: rest =>
    BitVec.ofNat 8 a :: BitVec.ofNat 8 (a / 256) :: BitVec.ofNat 8 (a / 65536) :: v ::
      encodeCells rest

/-- A request of a register write: `sub` 0 the whole operation, else one of its steps. -/
def regWr (roff data : Word) (sub : Byte) : RawRequest :=
  ⟨data, roff, fmtRegWr, sub, 0#8, 0#8, 0#32, []⟩

def regRd (roff : Word) : RawRequest := ⟨0#32, roff, fmtRegRd, 0#8, 0#8, 0#8, 0#32, []⟩

def evt (code : Word) (kind readOnly : Byte) (size : Word) (tail : List Byte) : RawRequest :=
  ⟨0#32, code, fmtEvt, 0#8, kind, readOnly, size, tail⟩

/-- The parts of the request of an operation (rules R50, R51, R60). -/
def rawOf : Instr → RawRequest
  | .acrRd => regRd Config.acrOffset
  | .acrWr data => regWr Config.acrOffset data 0#8
  | .keyrRd => regRd Config.keyrOffset
  | .keyrWr data => regWr Config.keyrOffset data 0#8
  | .keyrWrKey1 => regWr Config.keyrOffset Config.key1 1#8
  | .keyrWrKey2 => regWr Config.keyrOffset Config.key2 2#8
  | .keyrWrOther data => regWr Config.keyrOffset data 3#8
  | .srWr data => regWr Config.srOffset data 0#8
  | .srRd => regRd Config.srOffset
  | .crWr data => regWr Config.crOffset data 0#8
  | .crWrLock data => regWr Config.crOffset data 1#8
  | .crWrStore data => regWr Config.crOffset data 2#8
  | .crWrStrtLocked data => regWr Config.crOffset data 3#8
  | .crWrPer data => regWr Config.crOffset data 4#8
  | .crWrMer1 data => regWr Config.crOffset data 5#8
  | .crWrMer2 data => regWr Config.crOffset data 6#8
  | .crRd => regRd Config.crOffset
  | .unkRd roff => regRd roff
  | .unkWr roff data => regWr roff data 0#8
  | .flashWr off data => ⟨data, off.setWidth 32, fmtMemWr, 0#8, 0#8, 0#8, 0#32, []⟩
  | .flashRd off n => ⟨0#32, off.setWidth 32, fmtMemRd, 0#8, encodeWidth n, 0#8, 0#32, []⟩
  | .attach .same => evt 0#32 0#8 0#8 0#32 []
  | .attach .absent => evt 0#32 1#8 0#8 0#32 []
  | .attach (.image writable size cells) =>
    evt 0#32 2#8 (if writable then 0#8 else 1#8) (BitVec.ofNat 32 size) (encodeCells cells)
  | .reset => evt 1#32 0#8 0#8 0#32 []
  | .detach => evt 2#32 0#8 0#8 0#32 []

/-- The bytes of a well-formed instruction's request. -/
def encode (i : Instr) : List Byte := encodeRaw (rawOf i)

/-! ### The opcode table -/

/-- The five formats of rule R50, as the table names them. -/
inductive Format where
  | regRd
  | regWr
  | memRd
  | memWr
  | evt
  deriving DecidableEq, Repr

/-- A row of opcode_table.json (rule R51). -/
structure TableRow where
  mnemonic : String
  format : Format
  kmatch : Key
  mask : Key
  deriving DecidableEq, Repr

/-- The table's row of an instruction, as opcode_table.json has it. -/
def rowOf : Instr → TableRow
  | .acrRd => ⟨"ACR_RD", .regRd, 0x0000000000000000#64, 0xFFFFFFFF00000000#64⟩
  | .acrWr _ => ⟨"ACR_WR", .regWr, 0x0000000000000000#64, 0xFFFFFFFF00000000#64⟩
  | .keyrRd => ⟨"KEYR_RD", .regRd, 0x0000000800000000#64, 0xFFFFFFFF00000000#64⟩
  | .keyrWr _ => ⟨"KEYR_WR", .regWr, 0x0000000800000000#64, 0xFFFFFFFF00000000#64⟩
  | .keyrWrKey1 => ⟨"KEYR_WR.KEY1", .regWr, 0x0000000845670123#64, 0xFFFFFFFFFFFFFFFF#64⟩
  | .keyrWrKey2 => ⟨"KEYR_WR.KEY2", .regWr, 0x00000008CDEF89AB#64, 0xFFFFFFFFFFFFFFFF#64⟩
  | .keyrWrOther _ => ⟨"KEYR_WR.OTHER", .regWr, 0x0000000800000000#64, 0xFFFFFFFF00000000#64⟩
  | .srWr _ => ⟨"SR_WR", .regWr, 0x0000001000000000#64, 0xFFFFFFFF00000000#64⟩
  | .srRd => ⟨"SR_RD", .regRd, 0x0000001000000000#64, 0xFFFFFFFF00000000#64⟩
  | .crWr _ => ⟨"CR_WR", .regWr, 0x0000001400000000#64, 0xFFFFFFFF00000000#64⟩
  | .crWrLock _ => ⟨"CR_WR.LOCK", .regWr, 0x0000001480000000#64, 0xFFFFFFFF80000000#64⟩
  | .crWrStore _ => ⟨"CR_WR.STORE", .regWr, 0x0000001400000000#64, 0xFFFFFFFF80000000#64⟩
  | .crWrStrtLocked _ =>
    ⟨"CR_WR.STRT_LOCKED", .regWr, 0x0000001400010000#64, 0xFFFFFFFF80010000#64⟩
  | .crWrPer _ => ⟨"CR_WR.PER", .regWr, 0x0000001400010002#64, 0xFFFFFFFF80010002#64⟩
  | .crWrMer1 _ => ⟨"CR_WR.MER1", .regWr, 0x0000001400010004#64, 0xFFFFFFFF80010004#64⟩
  | .crWrMer2 _ => ⟨"CR_WR.MER2", .regWr, 0x0000001400018000#64, 0xFFFFFFFF80018000#64⟩
  | .crRd => ⟨"CR_RD", .regRd, 0x0000001400000000#64, 0xFFFFFFFF00000000#64⟩
  | .unkRd _ => ⟨"UNK_RD", .regRd, 0x0000000000000000#64, 0x0000000000000000#64⟩
  | .unkWr _ _ => ⟨"UNK_WR", .regWr, 0x0000000000000000#64, 0x0000000000000000#64⟩
  | .flashWr _ _ => ⟨"FLASH_WR", .memWr, 0x0000000000000000#64, 0xFFF0000000000000#64⟩
  | .flashRd _ _ => ⟨"FLASH_RD", .memRd, 0x0000000000000000#64, 0xFFF0000000000000#64⟩
  | .attach _ => ⟨"ATTACH", .evt, 0x0000000000000000#64, 0xFFFFFFFF00000000#64⟩
  | .reset => ⟨"RESET", .evt, 0x0000000100000000#64, 0xFFFFFFFF00000000#64⟩
  | .detach => ⟨"DETACH", .evt, 0x0000000200000000#64, 0xFFFFFFFF00000000#64⟩

/-- The key `K = {sel, data}` of an instruction's request (rule R51). -/
def keyOf (i : Instr) : Key := (rawOf i).sel ++ (rawOf i).data

/-- The number of a format in byte 8 of a request (log 2). -/
def formatByte : Format → Byte
  | .regWr => fmtRegWr
  | .regRd => fmtRegRd
  | .memWr => fmtMemWr
  | .memRd => fmtMemRd
  | .evt => fmtEvt

/-! ### Table words -/

/-- The bytes of an instruction whose bits are `w`, bit 0 the least significant bit of byte 0:
`nbits` bits, every bit above them zero, at least the 16 bytes of a request. -/
def tableBytes (nbits w : Nat) : List Byte :=
  (List.range (max 16 ((nbits + 7) / 8))).map fun k =>
    BitVec.ofNat 8 (w % 2 ^ nbits / 2 ^ (8 * k))

/-- The instruction the decoder reads from an instruction whose bits are `w`. -/
def decodeTableWord (nbits w : Nat) : Option Instr :=
  match decode (tableBytes nbits w) with
  | .ok i => some i
  | .error _ => none

end Sys2Proof
end

