-- ==== Sys2Proof/Machine/State.lean ====
section
/-! DEFINITION. The state of the machine (10_state.md rule R10, the complete list), the model's own
fields for what lies outside the block, the reasons a step can stop, and the state after reset. -/

namespace Sys2Proof.Machine

/-- Byte storage as a list of (offset, byte); an unlisted offset reads 0xFF (log 8). -/
abbrev Memory := List Host.Cell

/-- The canonical form: offsets strictly rising, no listed byte equal to what an unlisted offset
reads as, every offset inside the 0x100000 bytes of the banks or of the medium. -/
abbrev Memory.wf (m : Memory) : Prop :=
  m.Pairwise (fun a b => a.1 < b.1) ∧
    ∀ c ∈ m, c.2 ≠ Config.erasedByte ∧ c.1 < Config.flashSize

/-- The unlock stage, 0 or 1 (rule R15, decision D20). -/
inductive Stage where
  | zero
  | one
  deriving DecidableEq, Repr

/-- The medium's answer to one medium write (20_memory.md rule R43). -/
inductive MediumReply where
  | stored
  | failed
  deriving DecidableEq, Repr

/-- The causes of a ProtocolViolation (60_exceptions.md rule R151). -/
inductive ViolationCause where
  /-- V1, start while locked. -/
  | startLocked
  /-- V2, program while locked. -/
  | programLocked
  /-- V3, misaligned program. -/
  | misaligned
  /-- V4, program without `PG`. -/
  | notEnabled
  /-- V5, non-sequential program. -/
  | notSequential
  /-- V6, program of a non-erased cell. -/
  | notErased
  deriving DecidableEq, Repr

/-- The state: items 1 to 8 of rule R10, then the model's own four fields. -/
structure State where
  /-- Existence of the instance (rules R10 item 8, R25). -/
  attached : Bool
  /-- `CR` (rule R11). -/
  cr : Word
  /-- `SR` (rule R12). -/
  sr : Word
  /-- The unlock stage (rule R15). -/
  stage : Stage
  /-- The sequential-write tracker (rule R16): the logical offset of a pair's first word. -/
  tracker : Option FlashOffset
  /-- The bank-swap flag (rule R17). -/
  swap : Bool
  /-- `Bank[0]` and `Bank[1]` (rule R18): byte `boff` of physical bank `pb` at `MedOff(pb, boff)`
  (rules R33, R34; log 8). -/
  banks : Memory
  /-- The backing medium (rule R19). -/
  medium : Memory
  /-- The model's: the medium's answers to the coming medium writes, oldest first; where none is
  listed the medium stores (rule R43; log 6). -/
  mediumReplies : List MediumReply
  /-- The model's: how many medium writes have failed, the counter of the free value (log 7). -/
  mediumFailures : Nat
  /-- The model's: the requests of caller and host, oldest first (rules R5, R40; log 1). -/
  requests : List (List Byte)
  /-- The model's: the field out of the last operation (rule R50; log 5). -/
  response : Option Word
  deriving DecidableEq, Repr

/-- The causes of a ConfigurationError (60_exceptions.md rule R153). -/
inductive ConfigurationCause where
  | missing
  | readOnly
  | wrongSize
  deriving DecidableEq, Repr

/-- The one way the machine stops with a fault. -/
inductive Fault where
  /-- `raise ConfigurationError`, by ATTACH: "ATTACH has no successor state" (rule R153). Safe: the
  spec itself gives no state after it. -/
  | configurationError (cause : ConfigurationCause)
  deriving DecidableEq, Repr

/-- The reasons a request has no meaning. All safe: the spec says "refuse" (93_implementation_defined.md
U17 to U22), or the bytes are no request. -/
inductive Refusal where
  /-- Raised by `exec` for an instruction that has no meaning yet; no arm does. Safe. -/
  | notModelled (mnemonic : String)
  /-- Raised by `step` where the decoder refuses the request. Safe. -/
  | undecodable (why : DecodeError)
  /-- Raised by every operation but ATTACH when no instance exists (U20, rule R25). Safe. -/
  | noInstance
  /-- Raised by ATTACH on an attached instance (U22). Safe. -/
  | alreadyAttached
  /-- Raised by FLASH_RD where `off + n > 0x100000` (U19, decision D14). Safe. -/
  | flashReadPastEnd
  deriving DecidableEq, Repr

/-- After RESET of an instance attached to a blank medium (rules R23, R170; 95_test_vectors.md
"From reset"; log 4). -/
def State.reset : State where
  attached := true
  cr := 0x80000000#32
  sr := 0x00000000#32
  stage := .zero
  tracker := none
  swap := false
  banks := []
  medium := []
  mediumReplies := []
  mediumFailures := 0
  requests := []
  response := none

end Sys2Proof.Machine
end

