-- ==== Sys2Proof/Machine/Flags.lean ====
section
/-! DEFINITION. The bits of SR and CR: every flag computation of the spec (10_state.md rules R11,
R12, R21; 60_exceptions.md rule R162). Setting a flag is an OR (decision D26). -/

namespace Sys2Proof.Machine

/-! ### SR (rule R12) -/

/-- `SR <- SR | 0x00000001`. -/
def setEop (sr : Word) : Word := sr ||| Config.srEopMask

/-- `SR <- SR | 0x00000008`. -/
def setProgErr (sr : Word) : Word := sr ||| Config.srProgErrMask

/-- `SR <- SR | 0x00010000`. -/
def setBsy (sr : Word) : Word := sr ||| Config.srBsyMask

/-- `SR & ~0x00010000`. -/
def clearBsy (sr : Word) : Word := sr &&& ~~~Config.srBsyMask

/-- `SR <- SR & ~data` (rule R78): the written word is a clear mask (rule R55). -/
def clearFlags (sr data : Word) : Word := sr &&& ~~~data

/-! ### CR (rule R11) -/

/-- `CR <- CR | 0x80000000` (rule R81). -/
def setLock (cr : Word) : Word := cr ||| Config.crLockMask

/-- `CR <- CR & 0x7FFFFFFF` (rule R76). -/
def clearLock (cr : Word) : Word := cr &&& ~~~Config.crLockMask

/-- `CR <- CR & ~0x00010000` (rule R78). -/
def clearStrt (cr : Word) : Word := cr &&& ~~~Config.crStrtMask

/-- `CR <- (CR & 0x80000000) | (data & 0x7FFFFFFF)` (rule R82, decision D8; log 11). -/
def storeCr (cr data : Word) : Word :=
  (cr &&& Config.crLockMask) ||| (data &&& ~~~Config.crLockMask)

/-- `CR.LOCK` of the state. -/
def State.locked (s : State) : Bool := s.cr.getLsbD Config.crLock

/-- `CR.PG` of the state. -/
def State.programEnabled (s : State) : Bool := s.cr.getLsbD Config.crPg

end Sys2Proof.Machine
end

