-- ==== Sys2Proof/Machine/Operands.lean ====
section
/-! DEFINITION. Operand assembly and address arithmetic (20_memory.md rules R31 to R35, R45;
30_encoding.md rules R53, R54, R57). Address arithmetic is on natural numbers (rule R45). -/

namespace Sys2Proof.Machine

/-! ### Translation -/

/-- Logical bank of a logical byte offset (rule R31). -/
def logicalBank (off : Nat) : Nat := off / Config.bankSize

/-- Byte offset in the bank (rule R31). -/
def bankOffset (off : Nat) : Nat := off % Config.bankSize

/-- `Phys(lb)` (rule R32). -/
def phys (swap : Bool) (lb : Nat) : Nat := if swap then 1 - lb else lb

/-- `MedOff(pb, boff)` (rule R33). -/
def medOff (pb boff : Nat) : Nat := pb * Config.bankSize + boff

/-- The medium offset of a logical byte offset, `MedOff(Phys(lb), boff)`. -/
def physOffset (swap : Bool) (off : Nat) : Nat :=
  medOff (phys swap (logicalBank off)) (bankOffset off)

/-! ### Byte order -/

/-- `BE32(w)`: the word with its four bytes reversed (rule R35). -/
def be32 (w : Word) : Word := ofBytes (byteOf w 3) (byteOf w 2) (byteOf w 1) (byteOf w 0)

/-! ### The operands of an erase -/

/-- `page_index = zext_32(CR[10:3])` (rule R53; log 10). -/
def pageIndex (cr : Word) : Nat := (cr.extractLsb' Config.pnbLo Config.pnbWidth).toNat

/-- `bank_index = CR[11]`, a logical bank (rule R53). -/
def bankIndex (cr : Word) : Nat := (cr.extractLsb' Config.crBker 1).toNat

/-- `CR_PER(b, p) = 0x00010002 | (b << 11) | (p << 3)` (rule R53). -/
def crPerWord (b p : Nat) : Word :=
  0x00010002#32 ||| (BitVec.ofNat 32 b <<< Config.crBker) |||
    (BitVec.ofNat 32 p <<< Config.pnbLo)

/-! ### The operand of a flash-space access -/

/-- `off = address - FLASH_BASE` (rule R57), for the addresses of the space (rule R39). -/
def flashOffsetOf (address : Nat) : Option FlashOffset :=
  if Config.flashBase ≤ address ∧ address < Config.flashBase + Config.flashSize then
    some (BitVec.ofNat 20 (address - Config.flashBase))
  else none

end Sys2Proof.Machine
end

