-- ==== Sys2Proof/Machine/Ops.lean ====
section
/-! DEFINITION. The named operations over memory and registers: byte storage, the accessors of
20_memory.md rule R44, the medium write of rule R43, the entry of a ProtocolViolation
(60_exceptions.md rules R151, R158; there is no return from one, rule R159), and the reset of the
registers (rules R137, R170). -/

namespace Sys2Proof.Machine

/-- What an operation answers. -/
abbrev Result := Host.Outcome State Fault Refusal

/-! ### Byte storage -/

/-- One byte; an unlisted offset reads the erased pattern (log 8). -/
def Memory.read : Memory → Nat → Byte
  | [], _ => Config.erasedByte
  | c :: m, a => if c.1 = a then c.2 else Memory.read m a

/-- The listed form of bytes laid out from `lo` on: those that are not the erased pattern. -/
def listed : Nat → List Byte → Memory
  | _, [] => []
  | lo, b :: bs =>
    if b = Config.erasedByte then listed (lo + 1) bs else (lo, b) :: listed (lo + 1) bs

/-- The bytes from `lo` on replaced by these. -/
def Memory.splice (m : Memory) (lo : Nat) (bytes : List Byte) : Memory :=
  m.filter (fun c => c.1 < lo) ++ listed lo bytes ++
    m.filter (fun c => lo + bytes.length ≤ c.1)

/-- The `n` bytes from `lo` on erased. -/
def Memory.eraseRange (m : Memory) (lo n : Nat) : Memory :=
  m.filter (fun c => c.1 < lo || lo + n ≤ c.1)

/-- The little-endian word at `a` (rule R34). -/
def Memory.readWord (m : Memory) (a : Nat) : Word :=
  ofBytes (m.read a) (m.read (a + 1)) (m.read (a + 2)) (m.read (a + 3))

/-- What one write to banks and medium carries: a word's four bytes, or `n` bytes of 0xFF. -/
inductive Payload where
  | word (v : Word)
  | erased (n : Nat)
  deriving DecidableEq, Repr

/-- The number of bytes of a write. -/
def payloadSize : Payload → Nat
  | .word _ => 4
  | .erased n => n

/-- The bytes of a write laid down from `lo` on. -/
def Memory.put (m : Memory) (lo : Nat) : Payload → Memory
  | .word v => m.splice lo (wordBytes v)
  | .erased n => m.eraseRange lo n

/-! ### Accessors of the flash space (rule R44) -/

/-- `Bank[pb][i]` (rule R18). -/
def bankWord (s : State) (pb i : Nat) : Word := s.banks.readWord (medOff pb (4 * i))

/-- `Cell(off)`, for an aligned offset. -/
def cellAt (s : State) (off : Nat) : Word :=
  bankWord s (phys s.swap (logicalBank off)) (bankOffset off / 4)

/-- `Byte(off)`. -/
def flashByte (s : State) (off : Nat) : Byte := byteOf (cellAt s (off - off % 4)) (off % 4)

/-- `MemRead(off, n)`, as a number of 32 bits (log 20). -/
def memRead (s : State) (off : Nat) : Width → Word
  | .byte => ofBytes (flashByte s off) 0#8 0#8 0#8
  | .half => ofBytes (flashByte s off) (flashByte s (off + 1)) 0#8 0#8
  | .word => ofBytes (flashByte s off) (flashByte s (off + 1)) (flashByte s (off + 2))
      (flashByte s (off + 3))

/-! ### Fields -/

def State.setCr (s : State) (v : Word) : State := { s with cr := v }
def State.setSr (s : State) (v : Word) : State := { s with sr := v }
def State.setStage (s : State) (v : Stage) : State := { s with stage := v }
def State.setTracker (s : State) (v : Option FlashOffset) : State := { s with tracker := v }
def State.setBanks (s : State) (m : Memory) : State := { s with banks := m }

/-- An operation without a field out (rule R50). -/
def State.done (s : State) : State := { s with response := none }

/-- A read's field out (rule R50). -/
def State.answer (s : State) (v : Word) : State := { s with response := some v }

/-- An operation on an instance: refused where none exists (rule R25, U20). -/
def State.onInstance (s : State) (r : Result) : Result :=
  if s.attached then r else .refused .noInstance

/-! ### The medium (rule R43) -/

/-- The bytes a failed write of `n` bytes at `lo` leaves, the `k`-th failure: any (decision D19). -/
def failedBytes (k lo n : Nat) : List Byte :=
  (List.range n).map fun j => Config.failedMediumByte k (lo + j)

/-- `raise PersistenceWriteFailure` (60_exceptions.md rule R154): only the failed range of the
medium changes, to unspecified bytes. -/
def persistenceWriteFailure (s : State) (lo n : Nat) : State :=
  { s with
    medium := s.medium.splice lo (failedBytes s.mediumFailures lo n)
    mediumFailures := s.mediumFailures + 1 }

/-- `MediumWrite(moff, n, bytes)` (rule R43): the medium's answer is an input (log 6). -/
def mediumWrite (s : State) (moff : Nat) (p : Payload) : State :=
  match s.mediumReplies with
  | .failed :: rest => persistenceWriteFailure { s with mediumReplies := rest } moff (payloadSize p)
  | .stored :: rest => { s with medium := s.medium.put moff p, mediumReplies := rest }
  | [] => { s with medium := s.medium.put moff p }

/-- A write to the banks and then to the medium at the same place (rules R43, R44, R120). -/
def storeMirrored (s : State) (moff : Nat) (p : Payload) : State :=
  mediumWrite (s.setBanks (s.banks.put moff p)) moff p

/-- `StoreCell(off, v)` (rule R44). -/
def storeCell (s : State) (off : Nat) (v : Word) : State :=
  storeMirrored s (physOffset s.swap off) (.word v)

/-! ### Errors -/

/-- `raise ProtocolViolation` (rules R151, R158): V1 sets `PROGERR` (R83, decision D21; log 17);
V2 to V6 also clear `BSY` and the tracker (R102). -/
def raiseViolation (s : State) : ViolationCause → State
  | .startLocked => s.setSr (setProgErr s.sr)
  | .programLocked | .misaligned | .notEnabled | .notSequential | .notErased =>
    (s.setSr (setProgErr (clearBsy s.sr))).setTracker none

/-! ### Reset of the registers -/

/-- The reset values of `CR`, `SR`, `stage` and `tracker` (rules R23, R137, R170). -/
def initRegisters (s : State) : State :=
  { s with cr := 0x80000000#32, sr := 0x00000000#32, stage := .zero, tracker := none }

end Sys2Proof.Machine
end

