-- ==== Sys2Proof/Machine/EraseEngine.lean ====
section
/-! DEFINITION. The erase engine: the two procedures of 42_erase_engine.md. They are no operations
of their own; the CR write dispatcher invokes them. -/

namespace Sys2Proof.Machine

/-- The medium offset of a page of a logical bank, `MedOff(Phys(bank), 2048 × page)` (rule R120). -/
def pageStart (swap : Bool) (bank page : Nat) : Nat :=
  medOff (phys swap bank) (Config.pageSize * page)

/-- `page_erase(bank, page)` (rule R120): 512 words of the bank, then one medium write. -/
def pageErase (s : State) (bank page : Nat) : State :=
  storeMirrored s (pageStart s.swap bank page) (.erased Config.pageSize)

/-- `mass_erase(bank)` (rule R121): every word of the bank, then one medium write. -/
def massErase (s : State) (bank : Nat) : State :=
  storeMirrored s (medOff (phys s.swap bank) 0) (.erased Config.bankSize)

end Sys2Proof.Machine
end

