-- ==== Sys2Proof/Machine/ControlRegister.lean ====
section
/-! DEFINITION. The CR write and its six sub-operations (40_register_interface.md rules R80 to R86;
30_encoding.md rule R61). A sub-operation performed as an instruction of its own is performed where
its condition on the state holds and does nothing where it does not (log 3). -/

namespace Sys2Proof.Machine

/-- The effect of `CR_WR.LOCK` (rule R81): only `LOCK` and the stage change. -/
def crLockStep (s : State) : State := (s.setCr (setLock s.cr)).setStage .zero

/-- The effect of `CR_WR.STORE` (rule R82): bits 30:0 as written, bit 31 kept. -/
def crStoreStep (s : State) (data : Word) : State := s.setCr (storeCr s.cr data)

/-- The effect of `CR_WR.STRT_LOCKED` (rule R83): violation V1. -/
def crStrtLockedStep (s : State) : State := raiseViolation s .startLocked

/-- `SR <- SR | 0x00000001` after an erase (rules R84 to R86). -/
def endOfOperation (s : State) : State := s.setSr (setEop s.sr)

/-- The effect of `CR_WR.PER` (rule R84): the operands are read from `CR`, after the store. -/
def crPerStep (s : State) : State :=
  endOfOperation (pageErase s (bankIndex s.cr) (pageIndex s.cr))

/-- The effect of `CR_WR.MER1` (rule R85). -/
def crMer1Step (s : State) : State := endOfOperation (massErase s 0)

/-- The effect of `CR_WR.MER2` (rule R86). -/
def crMer2Step (s : State) : State := endOfOperation (massErase s 1)

/-- The three request bits, tested one after another (rule R80, decision D11; log 13). -/
def crDispatch (s : State) (data : Word) : State :=
  let s1 := if data.getLsbD Config.crPer then crPerStep s else s
  let s2 := if data.getLsbD Config.crMer1 then crMer1Step s1 else s1
  if data.getLsbD Config.crMer2 then crMer2Step s2 else s2

/-- The effect of a CR write (rule R80). -/
def crWrite (s : State) (data : Word) : State :=
  if data.getLsbD Config.crLock then crLockStep s
  else
    let s1 := crStoreStep s data
    if data.getLsbD Config.crStrt then
      if s1.locked then crStrtLockedStep s1 else crDispatch s1 data
    else s1

/-- `CR_WR` (rule R80). -/
def execCrWr (data : Word) (s : State) : Result := s.onInstance (.next (crWrite s data).done)

/-- `CR_WR.LOCK` (rule R81). -/
def execCrWrLock (_data : Word) (s : State) : Result := s.onInstance (.next (crLockStep s).done)

/-- `CR_WR.STORE` (rule R82). -/
def execCrWrStore (data : Word) (s : State) : Result :=
  s.onInstance (.next (crStoreStep s data).done)

/-- `CR_WR.STRT_LOCKED` (rule R83), performed where `CR.LOCK` = 1 (rule R61 line 3). -/
def execCrWrStrtLocked (_data : Word) (s : State) : Result :=
  s.onInstance (.next (if s.locked then crStrtLockedStep s else s).done)

/-- `CR_WR.PER` (rule R84), performed where `CR.LOCK` = 0 (rule R61 line 4). -/
def execCrWrPer (_data : Word) (s : State) : Result :=
  s.onInstance (.next (if s.locked then s else crPerStep s).done)

/-- `CR_WR.MER1` (rule R85), performed where `CR.LOCK` = 0 (rule R61 line 5). -/
def execCrWrMer1 (_data : Word) (s : State) : Result :=
  s.onInstance (.next (if s.locked then s else crMer1Step s).done)

/-- `CR_WR.MER2` (rule R86), performed where `CR.LOCK` = 0 (rule R61 line 6). -/
def execCrWrMer2 (_data : Word) (s : State) : Result :=
  s.onInstance (.next (if s.locked then s else crMer2Step s).done)

/-- The sub-operations one CR write performs, in order (rule R61); `locked` is the value
`CR.LOCK` had before the write. -/
def crSubOperations (locked : Bool) (data : Word) : List Instr :=
  if data.getLsbD Config.crLock then [.crWrLock data]
  else
    .crWrStore data ::
      (if data.getLsbD Config.crStrt then
        if locked then [.crWrStrtLocked data]
        else
          (if data.getLsbD Config.crPer then [.crWrPer data] else []) ++
          (if data.getLsbD Config.crMer1 then [.crWrMer1 data] else []) ++
          (if data.getLsbD Config.crMer2 then [.crWrMer2 data] else [])
      else [])

/-- The one sub-operation a KEYR write performs (rule R74). -/
def keyrSubOperation (data : Word) : Instr :=
  if data = Config.key1 then .keyrWrKey1
  else if data = Config.key2 then .keyrWrKey2
  else .keyrWrOther data

end Sys2Proof.Machine
end

