-- ==== Sys2Proof/Machine/Events.lean ====
section
/-! DEFINITION. The host's events: ATTACH with the load and the boot remap resolver, DETACH
(43_bank_storage_boot_remap.md) and RESET (70_reset_and_hazards.md). -/

namespace Sys2Proof.Machine

/-- `Load` (rule R131): both banks take the medium's content, by physical identity. -/
def load (s : State) : State := s.setBanks s.medium

/-- `Resolve` (rule R132): whether the first word of physical bank 1, read big-endian, lies in
`[FLASH_BASE, FLASH_BASE + BANK_SIZE)`. -/
def bootsFromBank1 (s : State) : Bool :=
  let v := (be32 (bankWord s 1 0)).toNat
  Config.flashBase ≤ v && v < Config.flashBase + Config.bankSize

/-- `Load`, `Resolve`, `InitRegisters` (rules R131, R132, R137; decision D18, log 16): the instance
exists. -/
def createInstance (s : State) : State :=
  let s1 := load s
  initRegisters { s1 with attached := true, swap := bootsFromBank1 s1 }

/-- The medium with the host's content. -/
def State.withMedium (s : State) (cells : Memory) : State := { s with medium := cells }

/-- The three tests and the three steps of an ATTACH (rule R130). -/
def attachMedium (s : State) : MediumArg → Result
  | .absent => .fault (.configurationError .missing)
  | .same => .next (createInstance s).done
  | .image writable size cells =>
    if !writable then .fault (.configurationError .readOnly)
    else if size ≠ Config.mediumSize then .fault (.configurationError .wrongSize)
    else .next (createInstance (s.withMedium cells)).done

/-- `ATTACH` (rule R130), refused on an attached instance (U22). -/
def execAttach (m : MediumArg) (s : State) : Result :=
  if s.attached then .refused .alreadyAttached else attachMedium s m

/-- `RESET` (rules R170, R171): the four registers; banks, medium and `swap` untouched. -/
def execReset (s : State) : Result := s.onInstance (.next (initRegisters s).done)

/-- `CR`, `SR`, `stage`, `tracker`, `swap` and both banks discarded (rule R135); only the medium
remains. The fields of a discarded instance hold their reset values, which nothing reads (log 9). -/
def discardInstance (s : State) : State :=
  initRegisters { s with attached := false, swap := false, banks := [] }

/-- `DETACH` (rule R135). -/
def execDetach (s : State) : Result := s.onInstance (.next (discardInstance s).done)

end Sys2Proof.Machine
end

