-- ==== Sys2Proof/Machine/FlashSpace.lean ====
section
/-! DEFINITION. The logical flash space: the program-path enforcer (41_program_path.md) and the
read (43_bank_storage_boot_remap.md rule R134). -/

namespace Sys2Proof.Machine

/-- `off` is exactly one word beyond the tracker. The comparison is on numbers: after the last word
of the space no offset is (20_memory.md rule R45). -/
def followsTracker (tracker : Option FlashOffset) (off : FlashOffset) : Bool :=
  match tracker with
  | none => true
  | some t => off.toNat == t.toNat + 4

/-- The five checks in order, the first that fails (rule R101). -/
def programCheck (s : State) (off : FlashOffset) : Option ViolationCause :=
  if s.locked then some .programLocked
  else if off.toNat % 4 ≠ 0 then some .misaligned
  else if !s.programEnabled then some .notEnabled
  else if !followsTracker s.tracker off then some .notSequential
  else if cellAt s off.toNat ≠ Config.erasedWord then some .notErased
  else none

/-- `FirstWord(off)` or `SecondWord` (rules R103, R104), told apart by the tracker alone. -/
def advancePair (s : State) (off : FlashOffset) : State :=
  match s.tracker with
  | none => (s.setTracker (some off)).setSr (setBsy s.sr)
  | some _ => (s.setTracker none).setSr (setEop (clearBsy s.sr))

/-- `FLASH_WR` (rules R100 to R105). -/
def execFlashWr (off : FlashOffset) (data : Word) (s : State) : Result :=
  s.onInstance <|
    match programCheck s off with
    | some cause => .next (raiseViolation s cause).done
    | none => .next (storeCell (advancePair s off) off.toNat data).done

/-- `FLASH_RD` (rule R134): always succeeds inside the space (U19 outside it). -/
def execFlashRd (off : FlashOffset) (n : Width) (s : State) : Result :=
  s.onInstance <|
    if off.toNat + n.bytes ≤ Config.flashSize then .next (s.answer (memRead s off.toNat n))
    else .refused .flashReadPastEnd

end Sys2Proof.Machine
end

