-- ==== Sys2Proof/Machine/KeyRegister.lean ====
section
/-! DEFINITION. The KEYR write and its three sub-operations, the unlock state machine
(40_register_interface.md rules R74 to R77). No KEYR write sets a flag (90_conflicts.md C7), and
`CR.LOCK` takes no part in it (decision D25; log 27). -/

namespace Sys2Proof.Machine

/-- The effect of `KEYR_WR.KEY1` (rule R75). -/
def keyrKey1 (s : State) : State :=
  match s.stage with
  | .zero => s.setStage .one
  | .one => s.setStage .zero

/-- The effect of `KEYR_WR.KEY2` (rule R76). -/
def keyrKey2 (s : State) : State :=
  match s.stage with
  | .one => (s.setCr (clearLock s.cr)).setStage .zero
  | .zero => s.setStage .zero

/-- The effect of `KEYR_WR.OTHER` (rule R77). -/
def keyrOther (s : State) : State := s.setStage .zero

/-- `KEYR_WR` (rule R74): exactly one sub-operation, chosen by the written word. -/
def execKeyrWr (data : Word) (s : State) : Result :=
  s.onInstance <|
    .next (if data = Config.key1 then keyrKey1 s
      else if data = Config.key2 then keyrKey2 s
      else keyrOther s).done

/-- `KEYR_WR.KEY1` (rule R75). -/
def execKeyrWrKey1 (s : State) : Result := s.onInstance (.next (keyrKey1 s).done)

/-- `KEYR_WR.KEY2` (rule R76). -/
def execKeyrWrKey2 (s : State) : Result := s.onInstance (.next (keyrKey2 s).done)

/-- `KEYR_WR.OTHER` (rule R77). -/
def execKeyrWrOther (_data : Word) (s : State) : Result := s.onInstance (.next (keyrOther s).done)

end Sys2Proof.Machine
end

