-- ==== Sys2Proof/Machine/StatusRegister.lean ====
section
/-! DEFINITION. The register operations without a state machine of their own: `ACR`, `SR`, the
reads of `KEYR` and `CR`, and the unknown offsets (40_register_interface.md rules R71 to R73, R78,
R79, R87 to R89). A diagnostic is not part of the state (60_exceptions.md rule R155). -/

namespace Sys2Proof.Machine

/-- `ACR_RD` (rule R71): returns 0. -/
def execAcrRd (s : State) : Result := s.onInstance (.next (s.answer 0x00000000#32))

/-- `ACR_WR` (rule R72): no state change (decision D6; log 18). -/
def execAcrWr (_data : Word) (s : State) : Result := s.onInstance (.next s.done)

/-- `KEYR_RD` (rule R73): returns 0 and does not disturb the stage (decision D7; log 18). -/
def execKeyrRd (s : State) : Result := s.onInstance (.next (s.answer 0x00000000#32))

/-- `SR_WR` (rule R78): the written word clears flags; its bit 16 clears `CR.STRT` too, whether
`BSY` was set or not (decision D12; log 14). -/
def execSrWr (data : Word) (s : State) : Result :=
  s.onInstance <|
    let s1 := s.setSr (clearFlags s.sr data)
    .next (if data.getLsbD Config.srBsy then s1.setCr (clearStrt s1.cr) else s1).done

/-- `SR_RD` (rule R79): returns `SR`; reading clears nothing. -/
def execSrRd (s : State) : Result := s.onInstance (.next (s.answer s.sr))

/-- `CR_RD` (rule R87): returns `CR`. -/
def execCrRd (s : State) : Result := s.onInstance (.next (s.answer s.cr))

/-- `UNK_RD` (rule R88): a diagnostic, returns 0. -/
def execUnkRd (_roff : Word) (s : State) : Result :=
  s.onInstance (.next (s.answer 0x00000000#32))

/-- `UNK_WR` (rule R89): a diagnostic, no state change (decision D5; log 18). -/
def execUnkWr (_roff _data : Word) (s : State) : Result := s.onInstance (.next s.done)

end Sys2Proof.Machine
end

