-- ==== Sys2Proof/Machine/Dispatch.lean ====
section
/-! DEFINITION. The operation map (30_encoding.md rule R60): one arm per row of the table. -/

namespace Sys2Proof.Machine

def exec (i : Instr) (s : State) : Host.Outcome State Fault Refusal :=
  match i with
  | .acrRd => Sys2Proof.Machine.execAcrRd s
  | .acrWr data => Sys2Proof.Machine.execAcrWr data s
  | .keyrRd => Sys2Proof.Machine.execKeyrRd s
  | .keyrWr data => Sys2Proof.Machine.execKeyrWr data s
  | .keyrWrKey1 => Sys2Proof.Machine.execKeyrWrKey1 s
  | .keyrWrKey2 => Sys2Proof.Machine.execKeyrWrKey2 s
  | .keyrWrOther data => Sys2Proof.Machine.execKeyrWrOther data s
  | .srWr data => Sys2Proof.Machine.execSrWr data s
  | .srRd => Sys2Proof.Machine.execSrRd s
  | .crWr data => Sys2Proof.Machine.execCrWr data s
  | .crWrLock data => Sys2Proof.Machine.execCrWrLock data s
  | .crWrStore data => Sys2Proof.Machine.execCrWrStore data s
  | .crWrStrtLocked data => Sys2Proof.Machine.execCrWrStrtLocked data s
  | .crWrPer data => Sys2Proof.Machine.execCrWrPer data s
  | .crWrMer1 data => Sys2Proof.Machine.execCrWrMer1 data s
  | .crWrMer2 data => Sys2Proof.Machine.execCrWrMer2 data s
  | .crRd => Sys2Proof.Machine.execCrRd s
  | .unkRd roff => Sys2Proof.Machine.execUnkRd roff s
  | .unkWr roff data => Sys2Proof.Machine.execUnkWr roff data s
  | .flashWr off data => Sys2Proof.Machine.execFlashWr off data s
  | .flashRd off n => Sys2Proof.Machine.execFlashRd off n s
  | .attach m => Sys2Proof.Machine.execAttach m s
  | .reset => Sys2Proof.Machine.execReset s
  | .detach => Sys2Proof.Machine.execDetach s

end Sys2Proof.Machine
end

