-- ==== Sys2Proof/Machine/Step.lean ====
section
/-! DEFINITION. One step: the oldest request is taken, decoded and performed, whole
(20_memory.md rule R40). With no request nothing happens (70_reset_and_hazards.md rule R190). -/

namespace Sys2Proof.Machine

/-- The state with its oldest request taken. -/
def State.takeRequest (s : State) (rest : List (List Byte)) : State := { s with requests := rest }

/-- One operation of the caller or of the host; none waiting, none performed (log 1, log 22). -/
def step (s : State) : Host.Outcome State Fault Refusal :=
  match s.requests with
  | [] => .next s
  | r :: rest =>
    match decode r with
    | .ok i => exec i (s.takeRequest rest)
    | .error why => .refused (.undecodable why)

/-- The instruction whose bits are `w` as the next request (log 1). -/
def State.withFetchWord (s : State) (nbits w : Nat) : State :=
  { s with requests := tableBytes nbits w :: s.requests }

end Sys2Proof.Machine
end

