-- ==== Sys2Proof/Machine/Pseudo.lean ====
section
/-! DEFINITION. The written forms at an absolute address and the pseudo-operations of 30_encoding.md
rule R62, each an abbreviation of a fixed sequence, and the performing of a sequence one operation
after another (20_memory.md rule R40). -/

namespace Sys2Proof.Machine

/-- Operations performed in order, stopping at the first that does not end in a next state. -/
def execAll : List Instr → State → Result
  | [], s => .next s
  | i :: is, s =>
    match exec i s with
    | .next t => execAll is t
    | .fault f => .fault f
    | .refused r => .refused r

/-- The written forms of a sequence performed in order. One that names no operation is refused as
`step` refuses its request (93_implementation_defined.md U19). -/
def performAll : List (Except DecodeError Instr) → State → Result
  | [], s => .next s
  | .error why :: _, _ => .refused (.undecodable why)
  | .ok i :: rest, s =>
    match exec i s with
    | .next t => performAll rest t
    | .fault f => .fault f
    | .refused r => .refused r

/-- `st.w A, v`. Addresses are unbounded numbers (00_scope.md rule R6): one outside the space names
no operation (20_memory.md rule R39, decision D16). -/
def storeAt (address : Nat) (v : Word) : Except DecodeError Instr :=
  match flashOffsetOf address with
  | some off => .ok (.flashWr off v)
  | none => .error .flashOffsetOutOfRange

/-- `ld.b A`, `ld.h A`, `ld.w A`, whole inside the space (20_memory.md rule R37, U19). -/
def loadAt (address : Nat) (n : Width) : Except DecodeError Instr :=
  match flashOffsetOf address with
  | some off =>
    if off.toNat + n.bytes ≤ Config.flashSize then .ok (.flashRd off n)
    else .error .flashReadPastEnd
  | none => .error .flashOffsetOutOfRange

/-- `UNLOCK`. -/
def pseudoUnlock : List Instr := [.keyrWr Config.key1, .keyrWr Config.key2]

/-- `LOCK`. -/
def pseudoLock : List Instr := [.crWr 0x80000000#32]

/-- `ERASE_PAGE b, p`. -/
def pseudoErasePage (b p : Nat) : List Instr := [.crWr (crPerWord b p)]

/-- `ERASE_BANK1`. -/
def pseudoEraseBank1 : List Instr := [.crWr 0x00010004#32]

/-- `ERASE_BANK2`. -/
def pseudoEraseBank2 : List Instr := [.crWr 0x00018000#32]

/-- `PG_ON`. -/
def pseudoPgOn : List Instr := [.crWr 0x00000001#32]

/-- `PG_OFF`. -/
def pseudoPgOff : List Instr := [.crWr 0x00000000#32]

/-- `PROGRAM_DW A, lo, hi`. `A + 4` does not wrap (rules R6, R45). DEDUCED, safe (log 30): rule R62
names no case for `A` = 0x080FFFFC; its expansion's second store, at 0x08100000, is outside the
space, so it is refused (U19) and never reaches offset 0. -/
def pseudoProgramDw (address : Nat) (lo hi : Word) : List (Except DecodeError Instr) :=
  [storeAt address lo, storeAt (address + 4) hi]

/-- `CLEAR_FLAGS`. -/
def pseudoClearFlags : List Instr := [.srWr 0x00010009#32]

end Sys2Proof.Machine
end

