-- ==== Sys2Proof/Safety.lean ====
section
/-! DEFINITION. What counts as a sound state and a safe run, in the terms the claims use: the
invariants of 10_state.md rule R22, the premise `MediumReliable` of 20_memory.md rule R43, what a
write to banks and medium leaves, and the safe run. -/

namespace Sys2Proof.Machine

/-- `SR & ~0x00010009 = 0` (rule R22 line 1). -/
abbrev statusReserved (s : State) : Prop := s.sr &&& ~~~0x00010009#32 = 0#32

/-- The tracker is `none` or a multiple of 4 in the space (rule R22 line 3). -/
abbrev trackerAligned (s : State) : Prop := ∀ t, s.tracker = some t → t.toNat % 4 = 0

/-- Rule R22 lines 1 and 3 (lines 2 and 4 are the types of `stage` and `swap`), and the canonical
form of the two memories. -/
structure StateSound (s : State) : Prop where
  status : statusReserved s
  tracker : trackerAligned s
  banksForm : s.banks.wf
  mediumForm : s.medium.wf

/-- `MediumReliable`: no medium write fails (rule R43). -/
abbrev mediumReliable (s : State) : Prop := ∀ r ∈ s.mediumReplies, r = MediumReply.stored

/-- Rule R22 line 5: every byte of the medium is the byte of the bank it mirrors (rules R33, R34). -/
abbrev mirrors (s : State) : Prop :=
  s.attached = true → ∀ a, a < Config.mediumSize → s.medium.read a = s.banks.read a

/-- Of two states, all but the medium and the model's record of its answers: what the caller, the
registers and the banks can tell apart (rules R43, R154). -/
def exceptMedium (s : State) : State :=
  { s with medium := [], mediumReplies := [], mediumFailures := 0 }

/-- The bytes `new 0`, `new 1`, … stand at `[lo, lo + n)` of the banks, and of the medium where it
stored the write; every other byte of both is as before (rule R43). -/
def writesExactly (s t : State) (lo n : Nat) (new : Nat → Byte) : Prop :=
  (∀ a, t.banks.read a = if lo ≤ a ∧ a < lo + n then new (a - lo) else s.banks.read a) ∧
  (∀ a, ¬ (lo ≤ a ∧ a < lo + n) → t.medium.read a = s.medium.read a) ∧
  (s.mediumReplies.head? ≠ some .failed →
    ∀ a, lo ≤ a → a < lo + n → t.medium.read a = new (a - lo))

/-- What an operation that sends one medium write leaves as it was, beside the registers its rule
writes: existence, stage, `swap`, the waiting requests; one answer of the medium is used up. -/
def keepsRest (s t : State) : Prop :=
  t.attached = s.attached ∧ t.stage = s.stage ∧ t.swap = s.swap ∧ t.requests = s.requests ∧
    t.response = none ∧ t.mediumReplies = s.mediumReplies.tail

/-- A run of `k` steps that meets neither a fault nor a refusal. -/
def safeRun : Nat → State → Prop
  | 0, _ => True
  | k + 1, s => ∃ t, step s = .next t ∧ safeRun k t

end Sys2Proof.Machine
end

