-- ==== Sys2Proof/Certificates/Slice0/Obligations.lean ====
section
/-! DEFINITION. The statements for the provers. Each docstring names the rule of spec/ it states;
where a clause is the spec's own decision or the model's choice, it says so. -/

open Sys2Proof Sys2Proof.Machine

/-! ### Encoding and the step -/

/-- Rules R50 to R52, R60: decoding an encoded well-formed instruction gives it back, every operand
at every value. The byte layout beside the key is the model's (log 2). -/
def Obligations.DecodeInvertsEncode : Prop :=
  ∀ i : Instr, i.wellFormed = true → decode (encode i) = .ok i

/-- Rules R50 to R52: whatever bytes a request has, what the decoder reads from them is a
well-formed instruction. -/
def Obligations.DecodedInstructionsAreWellFormed : Prop :=
  ∀ (bs : List Byte) (i : Instr), decode bs = .ok i → i.wellFormed = true

/-- Words of 95_test_vectors.md decode to what they stand for (keys S4, K2, C3, T1, P1); the format
numbers above bit 63 are the model's (log 2). -/
def Obligations.SpecKeysDecode : Prop :=
  decodeTableWord 64 0x0000000845670123 = some (.keyrWr 0x45670123#32) ∧
  decodeTableWord 64 0x000000140001001A = some (.crWr 0x0001001A#32) ∧
  decodeTableWord 64 0x0000001000000001 = some (.srWr 0x00000001#32) ∧
  decodeTableWord 72 0x010000001400000000 = some .crRd ∧
  decodeTableWord 72 0x0200000000DEADBEEF = some (.flashWr 0x00000#20 0xDEADBEEF#32) ∧
  decodeTableWord 72 0x030000180000000000 = some (.flashRd 0x01800#20 .word) ∧
  decodeTableWord 72 0x040000000100000000 = some .reset

/-- A step takes the oldest request, decodes it and performs it (rules R5, R40); a request that is
none is refused by name; with no request nothing happens (rule R190). That requests wait in a list
is the model's (log 1, log 22). -/
def Obligations.StepPerformsTheDecodedRequest : Prop :=
  (∀ (s : State) (r : List Byte) (rest : List (List Byte)) (i : Instr),
    s.requests = r :: rest → decode r = .ok i → step s = exec i { s with requests := rest }) ∧
  (∀ (s : State) (r : List Byte) (rest : List (List Byte)) (e : DecodeError),
    s.requests = r :: rest → decode r = .error e → step s = .refused (.undecodable e)) ∧
  (∀ s : State, s.requests = [] → step s = .next s)

/-! ### Reads and placeholders -/

/-- Rule R71, whole: the encoding, the value whatever went before, nothing else changed. -/
def Obligations.AcrReadReturnsZero : Prop :=
  (rawOf .acrRd).format = fmtRegRd ∧ (rawOf .acrRd).sel = 0x00#32 ∧
  ∀ s : State, s.attached = true →
    exec .acrRd s = .next { s with response := some 0x00000000#32 }

/-- Rule R87, whole: the encoding, `CR` as it is stored, nothing else changed. -/
def Obligations.ControlReadsAsStored : Prop :=
  (rawOf .crRd).format = fmtRegRd ∧ (rawOf .crRd).sel = 0x14#32 ∧
  ∀ s : State, s.attached = true → exec .crRd s = .next { s with response := some s.cr }

/-- Rule R79: `SR` reads as it is stored; reading clears no flag and changes nothing else. -/
def Obligations.StatusReadsAsStored : Prop :=
  (rawOf .srRd).format = fmtRegRd ∧ (rawOf .srRd).sel = 0x10#32 ∧
  ∀ s : State, s.attached = true → exec .srRd s = .next { s with response := some s.sr }

/-- Rules R73, R88: `KEYR` and every unknown offset read 0. The value of `KEYR` is the spec's own
decision D7 (log 18). -/
def Obligations.KeyrAndUnknownReadZero : Prop :=
  ∀ (s : State) (roff : Word), s.attached = true → (Instr.unkRd roff).wellFormed = true →
    exec .keyrRd s = .next { s with response := some 0x00000000#32 } ∧
    exec (.unkRd roff) s = .next { s with response := some 0x00000000#32 }

/-- Rules R72, R89: a write to `ACR` or to an unknown offset changes no state. Both are the spec's
own decisions D5 and D6 (log 18). -/
def Obligations.AcrAndUnknownWritesChangeNothing : Prop :=
  ∀ (s : State) (roff data : Word), s.attached = true →
    (Instr.unkWr roff data).wellFormed = true →
    exec (.acrWr data) s = .next { s with response := none } ∧
    exec (.unkWr roff data) s = .next { s with response := none }

/-- Rule R38: no operation of the two read formats changes anything but the field out. -/
def Obligations.ReadFormatsChangeNothing : Prop :=
  ∀ (i : Instr) (s t : State), (rowOf i).format = .regRd ∨ (rowOf i).format = .memRd →
    exec i s = .next t → { t with response := s.response } = s

/-! ### SR -/

/-- Rule R78: each written 1 clears its bit of `SR`, written bit 16 clears `CR.STRT` too, whatever
the lock and whatever `BSY` was (the spec's decision D12, log 14); nothing else changes. -/
def Obligations.StatusWriteClearsWrittenBits : Prop :=
  ∀ (s : State) (data : Word), s.attached = true →
    ∃ t, exec (.srWr data) s = .next t ∧
      (∀ i, i < 32 → t.sr.getLsbD i = (s.sr.getLsbD i && !data.getLsbD i)) ∧
      (∀ i, i < 32 →
        t.cr.getLsbD i = (s.cr.getLsbD i && !(decide (i = 16) && data.getLsbD 16))) ∧
      t = { s with sr := t.sr, cr := t.cr, response := none }

/-! ### KEYR -/

/-- Rule R75, whole: the encoding, `stage` 0 to 1 and 1 to 0, nothing else changed, whether asked
as a KEYR write or as its sub-operation. -/
def Obligations.FirstKeyMovesTheStage : Prop :=
  keyOf .keyrWrKey1 = 0x0000000845670123#64 ∧
  ∀ s : State, s.attached = true →
    (s.stage = .zero →
      exec .keyrWrKey1 s = .next { s with stage := .one, response := none }) ∧
    (s.stage = .one →
      exec .keyrWrKey1 s = .next { s with stage := .zero, response := none }) ∧
    exec (.keyrWr 0x45670123#32) s = exec .keyrWrKey1 s

/-- Rule R76, whole: the encoding; at stage 1 `LOCK` is cleared and `CR[30:0]` kept, at stage 0
only the stage is written; nothing is dispatched and nothing else changes. -/
def Obligations.SecondKeyUnlocks : Prop :=
  keyOf .keyrWrKey2 = 0x00000008CDEF89AB#64 ∧
  ∀ s : State, s.attached = true →
    (s.stage = .one → exec .keyrWrKey2 s =
      .next { s with cr := s.cr &&& 0x7FFFFFFF#32, stage := .zero, response := none }) ∧
    (s.stage = .zero →
      exec .keyrWrKey2 s = .next { s with stage := .zero, response := none }) ∧
    exec (.keyrWr 0xCDEF89AB#32) s = exec .keyrWrKey2 s

/-- Rule R77, whole: any word that is neither key sets the stage to 0 and nothing else. -/
def Obligations.OtherKeyResetsTheStage : Prop :=
  ∀ (s : State) (data : Word), s.attached = true →
    data ≠ 0x45670123#32 → data ≠ 0xCDEF89AB#32 →
    keyOf (.keyrWrOther data) = 0x00000008#32 ++ data ∧
    exec (.keyrWrOther data) s = .next { s with stage := .zero, response := none } ∧
    exec (.keyrWr data) s = exec (.keyrWrOther data) s

/-- 95_test_vectors.md S1 with the correction of conflict C5, K1 to K9: of all pairs of KEYR writes
from the locked state at stage 0, exactly (KEY1, KEY2) clears `LOCK`; no pair changes `SR`, the
banks or the medium; the stage ends at 1 exactly for a pair (not KEY1, KEY1). -/
def Obligations.OnlyTheKeyPairUnlocks : Prop :=
  ∀ (s : State) (a b : Word), s.attached = true → s.locked = true → s.stage = .zero →
    ∃ t, execAll [.keyrWr a, .keyrWr b] s = .next t ∧
      (t.locked = false ↔ a = 0x45670123#32 ∧ b = 0xCDEF89AB#32) ∧
      (t.stage = .one ↔ a ≠ 0x45670123#32 ∧ b = 0x45670123#32) ∧
      t = { s with cr := t.cr, stage := t.stage, response := none }

/-! ### CR -/

/-- Rule R81, whole: a CR write with bit 31 set sets `LOCK` and `stage` 0; bits 30:0 of `CR` keep
their value, nothing is stored and nothing dispatched. -/
def Obligations.LockWriteOnlyLocks : Prop :=
  ∀ (s : State) (data : Word), s.attached = true → data.getLsbD 31 = true →
    keyOf (.crWrLock data) = 0x00000014#32 ++ data ∧
    exec (.crWrLock data) s =
      .next { s with cr := s.cr ||| 0x80000000#32, stage := .zero, response := none } ∧
    exec (.crWr data) s = exec (.crWrLock data) s

/-- Rules R82, R91: the store takes bits 30:0 as written and keeps bit 31 (the spec's decisions D8
and D9, log 11); a CR write without `STRT`, or with `STRT` and no request bit while unlocked, does
no more. -/
def Obligations.StoreKeepsTheLockBit : Prop :=
  ∀ (s : State) (data : Word), s.attached = true → data.getLsbD 31 = false →
    ∃ t, exec (.crWrStore data) s = .next t ∧
      (∀ i, i < 31 → t.cr.getLsbD i = data.getLsbD i) ∧
      t.cr.getLsbD 31 = s.cr.getLsbD 31 ∧
      t = { s with cr := t.cr, response := none } ∧
      (data.getLsbD 16 = false → exec (.crWr data) s = .next t) ∧
      (s.cr.getLsbD 31 = false → data.getLsbD 1 = false → data.getLsbD 2 = false →
        data.getLsbD 15 = false → exec (.crWr data) s = .next t)

/-- Rule R83, cause V1 of R151: a start while locked stores `CR[30:0]`, sets `PROGERR` and stops;
`BSY`, the tracker, the banks and the medium are unchanged (the spec's decision D21, log 17). That
the sub-operation asked alone does nothing while unlocked is the model's (log 3). -/
def Obligations.StartWhileLockedIsRefused : Prop :=
  ∀ (s : State) (data : Word), s.attached = true → data.getLsbD 31 = false →
    data.getLsbD 16 = true →
    (s.cr.getLsbD 31 = true →
      exec (.crWr data) s = .next { s with
        cr := 0x80000000#32 ||| data, sr := s.sr ||| 0x00000008#32, response := none } ∧
      exec (.crWrStrtLocked data) s =
        .next { s with sr := s.sr ||| 0x00000008#32, response := none }) ∧
    (s.cr.getLsbD 31 = false →
      exec (.crWrStrtLocked data) s = .next { s with response := none })

/-- Rules R61, R74, R80: a CR write performs, in the order of R61, exactly the sub-operations whose
conditions hold, with the value `CR.LOCK` had before; a KEYR write performs exactly one. That the
request bits are tested independently is the spec's decision D11 (log 13). -/
def Obligations.WritesPerformTheirSubOperations : Prop :=
  ∀ (s : State) (data : Word), s.attached = true →
    exec (.crWr data) s = execAll (crSubOperations s.locked data) s ∧
    exec (.keyrWr data) s = execAll [keyrSubOperation data] s

/-- Rules R84, R120: the page erase. Unlocked, the 2048 bytes of page `CR[10:3]` of logical bank
`CR[11]`, translated by `swap`, become 0xFF in the bank, and in the medium if it stores the write;
`EOP` is set; nothing else changes. The place of the page field is the spec's decision D10
(log 10). -/
def Obligations.PageEraseErasesExactlyOnePage : Prop :=
  ∀ (s : State) (data : Word), s.attached = true → s.cr.getLsbD 31 = false →
    (Instr.crWrPer data).wellFormed = true →
    ∃ t, exec (.crWrPer data) s = .next t ∧ keepsRest s t ∧
      t.cr = s.cr ∧ t.tracker = s.tracker ∧ t.sr = s.sr ||| 0x00000001#32 ∧
      writesExactly s t (pageStart s.swap (bankIndex s.cr) (pageIndex s.cr)) 2048
        (fun _ => 0xFF#8)

/-- Rules R53, R84, R120 with the numbers written out: the CR write `CR_PER(b, p)` while unlocked
erases the bytes `[Phys(b) × 0x80000 + 2048 × p, + 2048)` and leaves that word in `CR`. Rests on the
spec's decision D10 (log 10). -/
def Obligations.PageEraseRequestNamesItsPage : Prop :=
  ∀ (s : State) (b p : Nat), s.attached = true → s.cr.getLsbD 31 = false → b ≤ 1 → p < 256 →
    ∃ t, exec (.crWr (crPerWord b p)) s = .next t ∧ keepsRest s t ∧
      t.cr = crPerWord b p ∧ t.tracker = s.tracker ∧ t.sr = s.sr ||| 0x00000001#32 ∧
      writesExactly s t ((if s.swap then 1 - b else b) * 0x80000 + 2048 * p) 2048
        (fun _ => 0xFF#8)

/-- Rules R85, R86, R121: each mass erase, while unlocked, sets every byte of its logical bank to
0xFF, translated by `swap`, in the bank and in the medium if it stores the write; `EOP` is set;
nothing else changes, the other bank included. That an erase leaves `BSY` alone is the source's open
point U2 (log 29). -/
def Obligations.MassEraseErasesExactlyOneBank : Prop :=
  ∀ (s : State) (data : Word), s.attached = true → s.cr.getLsbD 31 = false →
    ((Instr.crWrMer1 data).wellFormed = true →
      ∃ t, exec (.crWrMer1 data) s = .next t ∧ keepsRest s t ∧
        t.cr = s.cr ∧ t.tracker = s.tracker ∧ t.sr = s.sr ||| 0x00000001#32 ∧
        writesExactly s t (if s.swap then 0x80000 else 0) 0x80000 (fun _ => 0xFF#8)) ∧
    ((Instr.crWrMer2 data).wellFormed = true →
      ∃ t, exec (.crWrMer2 data) s = .next t ∧ keepsRest s t ∧
        t.cr = s.cr ∧ t.tracker = s.tracker ∧ t.sr = s.sr ||| 0x00000001#32 ∧
        writesExactly s t (if s.swap then 0 else 0x80000) 0x80000 (fun _ => 0xFF#8))

/-- The erase sub-operations asked alone while `CR.LOCK` = 1 do nothing: their condition in R61 does
not hold. That they can be asked alone is the model's (log 3). -/
def Obligations.LockedEraseStepsDoNothing : Prop :=
  ∀ (s : State) (data : Word), s.attached = true → s.cr.getLsbD 31 = true →
    exec (.crWrPer data) s = .next { s with response := none } ∧
    exec (.crWrMer1 data) s = .next { s with response := none } ∧
    exec (.crWrMer2 data) s = .next { s with response := none }

/-! ### The flash space -/

/-- Rules R101, R102: a store that meets any of the five failure conditions sets `PROGERR`, clears
`BSY` and the tracker, and changes nothing else: no bank byte, no medium byte. That check 4 compares
logical offsets is the spec's decision D17 (log 21). -/
def Obligations.FailedStoreChangesNoContent : Prop :=
  ∀ (s : State) (off : FlashOffset) (data : Word), s.attached = true →
    (s.cr.getLsbD 31 = true ∨ off.toNat % 4 ≠ 0 ∨ s.cr.getLsbD 0 = false ∨
      (∃ p, s.tracker = some p ∧ off.toNat ≠ p.toNat + 4) ∨
      cellAt s off.toNat ≠ 0xFFFFFFFF#32) →
    exec (.flashWr off data) s = .next { s with
      sr := (s.sr &&& ~~~0x00010000#32) ||| 0x00000008#32, tracker := none, response := none }

/-- Rules R103, R105: a store that passes the checks with no tracker sets the tracker and `BSY` and
writes the word's four bytes, low byte first (the spec's decision D13, log 15), at its translated
place in the bank, and in the medium if it stores the write. That the first word sets `BSY` alone is
the source's open point U1 (log 29). -/
def Obligations.FirstWordOfAPair : Prop :=
  ∀ (s : State) (off : FlashOffset) (data : Word), s.attached = true →
    s.cr.getLsbD 31 = false → off.toNat % 4 = 0 → s.cr.getLsbD 0 = true → s.tracker = none →
    cellAt s off.toNat = 0xFFFFFFFF#32 →
    ∃ t, exec (.flashWr off data) s = .next t ∧ keepsRest s t ∧
      t.cr = s.cr ∧ t.tracker = some off ∧ t.sr = s.sr ||| 0x00010000#32 ∧
      writesExactly s t (physOffset s.swap off.toNat) 4 (byteOf data)

/-- Rules R104, R105: a store that passes the checks one word beyond the tracker clears the tracker
and `BSY`, sets `EOP`, and writes the word, whatever `BSY` was. Byte order, logical offsets and the
word that completes a pair are the spec's decisions D13 and D17 and its reading of U1 (log 15,
log 21, log 29). -/
def Obligations.SecondWordOfAPair : Prop :=
  ∀ (s : State) (off p : FlashOffset) (data : Word), s.attached = true →
    s.cr.getLsbD 31 = false → off.toNat % 4 = 0 → s.cr.getLsbD 0 = true →
    s.tracker = some p → off.toNat = p.toNat + 4 → cellAt s off.toNat = 0xFFFFFFFF#32 →
    ∃ t, exec (.flashWr off data) s = .next t ∧ keepsRest s t ∧
      t.cr = s.cr ∧ t.tracker = none ∧
      t.sr = (s.sr &&& ~~~0x00010000#32) ||| 0x00000001#32 ∧
      writesExactly s t (physOffset s.swap off.toNat) 4 (byteOf data)

/-- Rule R62, `PROGRAM_DW`: from an unlocked state with `PG` set, no tracker and two erased cells,
the two stores leave the two words in the flash space, `EOP` set, `BSY` clear and no tracker, also
across the bank boundary (R107 item 5, the spec's decision D17; log 21, log 29). -/
def Obligations.ProgramDoubleWord : Prop :=
  ∀ (s : State) (off : FlashOffset) (lo hi : Word), s.attached = true →
    s.cr.getLsbD 31 = false → s.cr.getLsbD 0 = true → s.tracker = none →
    off.toNat % 4 = 0 → off.toNat + 4 < 0x100000 →
    cellAt s off.toNat = 0xFFFFFFFF#32 → cellAt s (off.toNat + 4) = 0xFFFFFFFF#32 →
    ∃ t, performAll (pseudoProgramDw (0x08000000 + off.toNat) lo hi) s = .next t ∧
      cellAt t off.toNat = lo ∧ cellAt t (off.toNat + 4) = hi ∧
      t.tracker = none ∧ t.cr = s.cr ∧ t.stage = s.stage ∧ t.swap = s.swap ∧
      t.sr = (s.sr &&& ~~~0x00010000#32) ||| 0x00000001#32 ∧
      (∀ o, o < 0x100000 → o % 4 = 0 → o ≠ off.toNat → o ≠ off.toNat + 4 →
        cellAt t o = cellAt s o)

/-- Rule R62, `PROGRAM_DW` where `A + 4` is no address of the space: addresses do not wrap (R6, R45),
so at the last word, 0x080FFFFC, the second store is refused (R39, U19), whatever the first store
did, and from 0x08100000 on already the first. That R62 names no such case, and that its expansion
is followed to the letter there, is the model's inference (log 30). -/
def Obligations.ProgramDoubleWordStopsAtTheEnd : Prop :=
  ∀ (s : State) (address : Nat) (lo hi : Word), s.attached = true → 0x080FFFFC ≤ address →
    performAll (pseudoProgramDw address lo hi) s =
        .refused (.undecodable .flashOffsetOutOfRange) ∧
      storeAt address lo =
        (if address < 0x08100000 then .ok (.flashWr (BitVec.ofNat 20 (address - 0x08000000)) lo)
        else .error .flashOffsetOutOfRange)

/-- Rules R44, R134: a read inside the space answers the bytes at the translated places, low byte
first, and changes nothing; beyond the end it is refused (U19). Widths and byte order are the
spec's decisions D13 and D14 (log 15, log 20). -/
def Obligations.FlashReadReturnsTheBytes : Prop :=
  ∀ (s : State) (off : FlashOffset) (n : Width), s.attached = true →
    (off.toNat + n.bytes ≤ 0x100000 →
      ∃ v : Word, exec (.flashRd off n) s = .next { s with response := some v } ∧
        ∀ k, k < 4 → byteOf v k =
          if k < n.bytes then s.banks.read (physOffset s.swap (off.toNat + k)) else 0x00#8) ∧
    (0x100000 < off.toNat + n.bytes → exec (.flashRd off n) s = .refused .flashReadPastEnd)

/-! ### The events -/

/-- Rules R130 to R132, R137: ATTACH of a good medium. The banks take the medium's bytes, the
registers their reset values (the spec's decision D18, log 16), and `swap` is set exactly if the
medium's bytes at 0x80000, read big-endian, lie in `[0x08000000, 0x08080000)`. -/
def Obligations.AttachLoadsAndResolves : Prop :=
  ∀ (s : State) (m : MediumArg) (content : Memory), s.attached = false →
    ((m = .same ∧ content = s.medium) ∨ m = .image true 0x100000 content) →
    ∃ t, exec (.attach m) s = .next t ∧
      t.attached = true ∧ t.cr = 0x80000000#32 ∧ t.sr = 0x00000000#32 ∧ t.stage = .zero ∧
      t.tracker = none ∧ t.banks = content ∧ t.medium = content ∧
      (t.swap = true ↔
        0x08000000 ≤ (content.read 0x80000).toNat * 2 ^ 24 +
          (content.read 0x80001).toNat * 2 ^ 16 + (content.read 0x80002).toNat * 2 ^ 8 +
          (content.read 0x80003).toNat ∧
        (content.read 0x80000).toNat * 2 ^ 24 +
          (content.read 0x80001).toNat * 2 ^ 16 + (content.read 0x80002).toNat * 2 ^ 8 +
          (content.read 0x80003).toNat < 0x08080000) ∧
      t.mediumReplies = s.mediumReplies ∧ t.mediumFailures = s.mediumFailures ∧
      t.requests = s.requests ∧ t.response = none

/-- Rules R130, R153: ATTACH of an absent, a read-only or a mis-sized medium is a
ConfigurationError and has no successor state. -/
def Obligations.AttachRejectsABadMedium : Prop :=
  ∀ (s : State) (size : Nat) (content : List Host.Cell), s.attached = false →
    exec (.attach .absent) s = .fault (.configurationError .missing) ∧
    exec (.attach (.image false size content)) s = .fault (.configurationError .readOnly) ∧
    (size ≠ 0x100000 →
      exec (.attach (.image true size content)) s = .fault (.configurationError .wrongSize))

/-- Rule R25, U20 and U22: with no instance every operation but ATTACH is refused, and a second
ATTACH is refused. -/
def Obligations.ExistenceGatesEveryOperation : Prop :=
  (∀ (s : State) (i : Instr), s.attached = false → (∀ m, i ≠ .attach m) →
    exec i s = .refused .noInstance) ∧
  (∀ (s : State) (m : MediumArg), s.attached = true →
    exec (.attach m) s = .refused .alreadyAttached)

/-- Rules R170, R171, whole: RESET gives the four registers their reset values and leaves `swap`,
the banks and the medium untouched. -/
def Obligations.ResetSetsRegistersOnly : Prop :=
  (rawOf .reset).format = fmtEvt ∧ (rawOf .reset).sel = 1#32 ∧
  ∀ s : State, s.attached = true →
    exec .reset s = .next { s with
      cr := 0x80000000#32, sr := 0x00000000#32, stage := .zero, tracker := none,
      response := none }

/-- Rule R135: DETACH ends the instance and leaves the medium as it is, nothing written to it. -/
def Obligations.DetachLeavesTheMedium : Prop :=
  ∀ s : State, s.attached = true →
    ∃ t, exec .detach s = .next t ∧ t.attached = false ∧ t.medium = s.medium ∧
      t.mediumReplies = s.mediumReplies ∧ t.mediumFailures = s.mediumFailures ∧
      t.requests = s.requests ∧ t.response = none

/-- Rule R136: a power cycle. After DETACH and ATTACH with the same medium the banks hold what the
medium holds, which under the mirror is what they held before, and the registers hold their reset
values (the spec's decision D18, log 16). -/
def Obligations.PowerCycleRestoresTheBanks : Prop :=
  ∀ s : State, s.attached = true → mirrors s →
    ∃ t, execAll [.detach, .attach .same] s = .next t ∧ t.attached = true ∧
      (∀ a, a < 0x100000 → t.banks.read a = s.banks.read a) ∧ t.medium = s.medium ∧
      t.cr = 0x80000000#32 ∧ t.sr = 0x00000000#32 ∧ t.stage = .zero ∧ t.tracker = none

/-! ### Invariants and whole-machine rules -/

/-- Rule R22 lines 1 and 3 and the canonical form of banks and medium: every step keeps them, from
every state. -/
def Obligations.StepKeepsTheStateSound : Prop :=
  ∀ s t : State, StateSound s → step s = .next t → StateSound t

/-- The state after reset is sound. Its blank medium is the model's choice (log 4). -/
def Obligations.ResetStateIsSound : Prop := StateSound State.reset

/-- Rule R22 line 5: under `MediumReliable` every step keeps the medium the mirror of the banks, and
the premise itself. -/
def Obligations.StepKeepsTheMirror : Prop :=
  ∀ s t : State, mediumReliable s → mirrors s → step s = .next t → mediumReliable t ∧ mirrors t

/-- The state after reset mirrors. Its blank medium is the model's choice (log 4). -/
def Obligations.ResetStateMirrors : Prop := mediumReliable State.reset ∧ mirrors State.reset

/-- Rules R22, R42, R160: while `CR.LOCK` = 1 no step changes a medium byte, nor, unless it ends the
instance, a bank byte. -/
def Obligations.LockedContentIsProtected : Prop :=
  ∀ s t : State, s.attached = true → s.locked = true → step s = .next t →
    t.medium = s.medium ∧ (t.attached = true → t.banks = s.banks)

/-- Rule R22 line 6: no operation but an erase sets a bit of a bank byte; an erase leaves a byte as
it was or makes it 0xFF. -/
def Obligations.OnlyErasesSetBits : Prop :=
  ∀ (i : Instr) (s t : State) (a : Nat), s.attached = true → t.attached = true →
    exec i s = .next t →
    match i with
    | .crWr _ | .crWrPer _ | .crWrMer1 _ | .crWrMer2 _ =>
      t.banks.read a = s.banks.read a ∨ t.banks.read a = 0xFF#8
    | _ => t.banks.read a &&& ~~~s.banks.read a = 0x00#8

/-- Rules R17, R133: `swap` is immutable for the lifetime of an instance. -/
def Obligations.SwapIsFixedWhileAttached : Prop :=
  ∀ s t : State, s.attached = true → step s = .next t → t.attached = true → t.swap = s.swap

/-- Rule R90: the complete transition table of the lock state machine, over every operation. The
table is the spec's own inference; it rests on its decisions D8 and D25 (log 11, log 27). -/
def Obligations.LockStateMachine : Prop :=
  ∀ (i : Instr) (s t : State), s.attached = true → exec i s = .next t → t.attached = true →
    (t.locked, t.stage) =
      match i with
      | .keyrWr data =>
        if data = 0x45670123#32 then (s.locked, if s.stage = .zero then .one else .zero)
        else if data = 0xCDEF89AB#32 then (s.locked && decide (s.stage = .zero), .zero)
        else (s.locked, .zero)
      | .keyrWrKey1 => (s.locked, if s.stage = .zero then .one else .zero)
      | .keyrWrKey2 => (s.locked && decide (s.stage = .zero), .zero)
      | .keyrWrOther _ => (s.locked, .zero)
      | .crWr data => if data.getLsbD 31 then (true, .zero) else (s.locked, s.stage)
      | .crWrLock _ => (true, .zero)
      | .reset => (true, .zero)
      | _ => (s.locked, s.stage)

/-- Rule R90: the only way from `LOCK` = 1 to `LOCK` = 0 is `KEY2` from `STAGE1`. That a CR store
keeps `LOCK` is the spec's decision D8 (log 11). -/
def Obligations.OnlyTheSecondKeyUnlocks : Prop :=
  ∀ (i : Instr) (s t : State), s.locked = true → exec i s = .next t → t.locked = false →
    s.stage = .one ∧ (i = .keyrWr 0xCDEF89AB#32 ∨ i = .keyrWrKey2)

/-- Rule R106: only FLASH_WR and RESET move the program-path machine of an instance. -/
def Obligations.OnlyStoresAndResetMoveTheTracker : Prop :=
  ∀ (i : Instr) (s t : State), s.attached = true → exec i s = .next t → t.attached = true →
    t.tracker ≠ s.tracker → i = .reset ∨ ∃ off data, i = .flashWr off data

/-- Rules R21, R162: a set flag stays set until an SR write clears it or RESET does; `BSY` also
falls by the program path. That a flag is set by an OR is the spec's decision D26 (log 27). -/
def Obligations.FlagsAreSticky : Prop :=
  ∀ (i : Instr) (s t : State), s.attached = true → exec i s = .next t → t.attached = true →
    (∀ b, b = 0 ∨ b = 3 → s.sr.getLsbD b = true → t.sr.getLsbD b = false →
      i = .reset ∨ ∃ data, i = .srWr data ∧ data.getLsbD b = true) ∧
    (s.sr.getLsbD 16 = true → t.sr.getLsbD 16 = false →
      i = .reset ∨ (∃ data, i = .srWr data ∧ data.getLsbD 16 = true) ∨
        ∃ off data, i = .flashWr off data)

/-- Rules R43, R154: the medium's content and answers show in no register, no bank byte and no
value read: of two states that differ only there, every operation but ATTACH makes two states that
differ only there. -/
def Obligations.MediumIsInvisibleToTheCaller : Prop :=
  ∀ (i : Instr) (s s' t : State), (∀ m, i ≠ .attach m) → exceptMedium s = exceptMedium s' →
    exec i s = .next t → ∃ t', exec i s' = .next t' ∧ exceptMedium t = exceptMedium t'

/-- Rules R58, R70, R150: on an instance every well-formed operation but ATTACH completes; none
faults, none is refused, and only DETACH ends the instance. That a sub-operation can be asked alone
is the model's (log 3). -/
def Obligations.EveryOperationCompletes : Prop :=
  ∀ (i : Instr) (s : State), s.attached = true → i.wellFormed = true → (∀ m, i ≠ .attach m) →
    ∃ t, exec i s = .next t ∧ (t.attached = true ↔ i ≠ .detach)

/-- The two memories have one form each: canonical memories that read alike are the same list. The
form is the model's (log 8), for the words of R18 and the bytes of R19. -/
def Obligations.CanonicalMemoriesAreEqual : Prop :=
  ∀ m m' : Memory, m.wf → m'.wf → (∀ a, m.read a = m'.read a) → m = m'

/-- Rules R32, R33: `Phys` is its own inverse, and every medium offset is the place of exactly one
offset of the flash space, whatever `swap`. -/
def Obligations.TranslationIsABijection : Prop :=
  (∀ (swap : Bool) (lb : Nat), lb ≤ 1 → phys swap (phys swap lb) = lb) ∧
  (∀ (swap : Bool) (a : Nat), a < 0x100000 →
    ∃! off, off < 0x100000 ∧ physOffset swap off = a)
end

