-- ==== Sys2Proof/Laws/State.lean ====
section
/-! SUPPORT. One lemma per field per update of the state, true by rfl: no later proof unfolds a
record update. -/

namespace Sys2Proof.Machine

variable (s : State)

/-! ### `setCr` -/

@[simp] theorem setCr_attached (v : Word) : (s.setCr v).attached = s.attached := rfl
@[simp] theorem setCr_cr (v : Word) : (s.setCr v).cr = v := rfl
@[simp] theorem setCr_sr (v : Word) : (s.setCr v).sr = s.sr := rfl
@[simp] theorem setCr_stage (v : Word) : (s.setCr v).stage = s.stage := rfl
@[simp] theorem setCr_tracker (v : Word) : (s.setCr v).tracker = s.tracker := rfl
@[simp] theorem setCr_swap (v : Word) : (s.setCr v).swap = s.swap := rfl
@[simp] theorem setCr_banks (v : Word) : (s.setCr v).banks = s.banks := rfl
@[simp] theorem setCr_medium (v : Word) : (s.setCr v).medium = s.medium := rfl
@[simp] theorem setCr_mediumReplies (v : Word) : (s.setCr v).mediumReplies = s.mediumReplies := rfl
@[simp] theorem setCr_mediumFailures (v : Word) : (s.setCr v).mediumFailures = s.mediumFailures := rfl
@[simp] theorem setCr_requests (v : Word) : (s.setCr v).requests = s.requests := rfl
@[simp] theorem setCr_response (v : Word) : (s.setCr v).response = s.response := rfl

/-! ### `setSr` -/

@[simp] theorem setSr_attached (v : Word) : (s.setSr v).attached = s.attached := rfl
@[simp] theorem setSr_cr (v : Word) : (s.setSr v).cr = s.cr := rfl
@[simp] theorem setSr_sr (v : Word) : (s.setSr v).sr = v := rfl
@[simp] theorem setSr_stage (v : Word) : (s.setSr v).stage = s.stage := rfl
@[simp] theorem setSr_tracker (v : Word) : (s.setSr v).tracker = s.tracker := rfl
@[simp] theorem setSr_swap (v : Word) : (s.setSr v).swap = s.swap := rfl
@[simp] theorem setSr_banks (v : Word) : (s.setSr v).banks = s.banks := rfl
@[simp] theorem setSr_medium (v : Word) : (s.setSr v).medium = s.medium := rfl
@[simp] theorem setSr_mediumReplies (v : Word) : (s.setSr v).mediumReplies = s.mediumReplies := rfl
@[simp] theorem setSr_mediumFailures (v : Word) : (s.setSr v).mediumFailures = s.mediumFailures := rfl
@[simp] theorem setSr_requests (v : Word) : (s.setSr v).requests = s.requests := rfl
@[simp] theorem setSr_response (v : Word) : (s.setSr v).response = s.response := rfl

/-! ### `setStage` -/

@[simp] theorem setStage_attached (v : Stage) : (s.setStage v).attached = s.attached := rfl
@[simp] theorem setStage_cr (v : Stage) : (s.setStage v).cr = s.cr := rfl
@[simp] theorem setStage_sr (v : Stage) : (s.setStage v).sr = s.sr := rfl
@[simp] theorem setStage_stage (v : Stage) : (s.setStage v).stage = v := rfl
@[simp] theorem setStage_tracker (v : Stage) : (s.setStage v).tracker = s.tracker := rfl
@[simp] theorem setStage_swap (v : Stage) : (s.setStage v).swap = s.swap := rfl
@[simp] theorem setStage_banks (v : Stage) : (s.setStage v).banks = s.banks := rfl
@[simp] theorem setStage_medium (v : Stage) : (s.setStage v).medium = s.medium := rfl
@[simp] theorem setStage_mediumReplies (v : Stage) : (s.setStage v).mediumReplies = s.mediumReplies := rfl
@[simp] theorem setStage_mediumFailures (v : Stage) : (s.setStage v).mediumFailures = s.mediumFailures := rfl
@[simp] theorem setStage_requests (v : Stage) : (s.setStage v).requests = s.requests := rfl
@[simp] theorem setStage_response (v : Stage) : (s.setStage v).response = s.response := rfl

/-! ### `setTracker` -/

@[simp] theorem setTracker_attached (v : Option FlashOffset) : (s.setTracker v).attached = s.attached := rfl
@[simp] theorem setTracker_cr (v : Option FlashOffset) : (s.setTracker v).cr = s.cr := rfl
@[simp] theorem setTracker_sr (v : Option FlashOffset) : (s.setTracker v).sr = s.sr := rfl
@[simp] theorem setTracker_stage (v : Option FlashOffset) : (s.setTracker v).stage = s.stage := rfl
@[simp] theorem setTracker_tracker (v : Option FlashOffset) : (s.setTracker v).tracker = v := rfl
@[simp] theorem setTracker_swap (v : Option FlashOffset) : (s.setTracker v).swap = s.swap := rfl
@[simp] theorem setTracker_banks (v : Option FlashOffset) : (s.setTracker v).banks = s.banks := rfl
@[simp] theorem setTracker_medium (v : Option FlashOffset) : (s.setTracker v).medium = s.medium := rfl
@[simp] theorem setTracker_mediumReplies (v : Option FlashOffset) : (s.setTracker v).mediumReplies = s.mediumReplies := rfl
@[simp] theorem setTracker_mediumFailures (v : Option FlashOffset) : (s.setTracker v).mediumFailures = s.mediumFailures := rfl
@[simp] theorem setTracker_requests (v : Option FlashOffset) : (s.setTracker v).requests = s.requests := rfl
@[simp] theorem setTracker_response (v : Option FlashOffset) : (s.setTracker v).response = s.response := rfl

/-! ### `setBanks` -/

@[simp] theorem setBanks_attached (v : Memory) : (s.setBanks v).attached = s.attached := rfl
@[simp] theorem setBanks_cr (v : Memory) : (s.setBanks v).cr = s.cr := rfl
@[simp] theorem setBanks_sr (v : Memory) : (s.setBanks v).sr = s.sr := rfl
@[simp] theorem setBanks_stage (v : Memory) : (s.setBanks v).stage = s.stage := rfl
@[simp] theorem setBanks_tracker (v : Memory) : (s.setBanks v).tracker = s.tracker := rfl
@[simp] theorem setBanks_swap (v : Memory) : (s.setBanks v).swap = s.swap := rfl
@[simp] theorem setBanks_banks (v : Memory) : (s.setBanks v).banks = v := rfl
@[simp] theorem setBanks_medium (v : Memory) : (s.setBanks v).medium = s.medium := rfl
@[simp] theorem setBanks_mediumReplies (v : Memory) : (s.setBanks v).mediumReplies = s.mediumReplies := rfl
@[simp] theorem setBanks_mediumFailures (v : Memory) : (s.setBanks v).mediumFailures = s.mediumFailures := rfl
@[simp] theorem setBanks_requests (v : Memory) : (s.setBanks v).requests = s.requests := rfl
@[simp] theorem setBanks_response (v : Memory) : (s.setBanks v).response = s.response := rfl

/-! ### `withMedium` -/

@[simp] theorem withMedium_attached (v : Memory) : (s.withMedium v).attached = s.attached := rfl
@[simp] theorem withMedium_cr (v : Memory) : (s.withMedium v).cr = s.cr := rfl
@[simp] theorem withMedium_sr (v : Memory) : (s.withMedium v).sr = s.sr := rfl
@[simp] theorem withMedium_stage (v : Memory) : (s.withMedium v).stage = s.stage := rfl
@[simp] theorem withMedium_tracker (v : Memory) : (s.withMedium v).tracker = s.tracker := rfl
@[simp] theorem withMedium_swap (v : Memory) : (s.withMedium v).swap = s.swap := rfl
@[simp] theorem withMedium_banks (v : Memory) : (s.withMedium v).banks = s.banks := rfl
@[simp] theorem withMedium_medium (v : Memory) : (s.withMedium v).medium = v := rfl
@[simp] theorem withMedium_mediumReplies (v : Memory) : (s.withMedium v).mediumReplies = s.mediumReplies := rfl
@[simp] theorem withMedium_mediumFailures (v : Memory) : (s.withMedium v).mediumFailures = s.mediumFailures := rfl
@[simp] theorem withMedium_requests (v : Memory) : (s.withMedium v).requests = s.requests := rfl
@[simp] theorem withMedium_response (v : Memory) : (s.withMedium v).response = s.response := rfl

/-! ### `takeRequest` -/

@[simp] theorem takeRequest_attached (v : List (List Byte)) : (s.takeRequest v).attached = s.attached := rfl
@[simp] theorem takeRequest_cr (v : List (List Byte)) : (s.takeRequest v).cr = s.cr := rfl
@[simp] theorem takeRequest_sr (v : List (List Byte)) : (s.takeRequest v).sr = s.sr := rfl
@[simp] theorem takeRequest_stage (v : List (List Byte)) : (s.takeRequest v).stage = s.stage := rfl
@[simp] theorem takeRequest_tracker (v : List (List Byte)) : (s.takeRequest v).tracker = s.tracker := rfl
@[simp] theorem takeRequest_swap (v : List (List Byte)) : (s.takeRequest v).swap = s.swap := rfl
@[simp] theorem takeRequest_banks (v : List (List Byte)) : (s.takeRequest v).banks = s.banks := rfl
@[simp] theorem takeRequest_medium (v : List (List Byte)) : (s.takeRequest v).medium = s.medium := rfl
@[simp] theorem takeRequest_mediumReplies (v : List (List Byte)) : (s.takeRequest v).mediumReplies = s.mediumReplies := rfl
@[simp] theorem takeRequest_mediumFailures (v : List (List Byte)) : (s.takeRequest v).mediumFailures = s.mediumFailures := rfl
@[simp] theorem takeRequest_requests (v : List (List Byte)) : (s.takeRequest v).requests = v := rfl
@[simp] theorem takeRequest_response (v : List (List Byte)) : (s.takeRequest v).response = s.response := rfl

/-! ### `done` -/

@[simp] theorem done_attached : (s.done).attached = s.attached := rfl
@[simp] theorem done_cr : (s.done).cr = s.cr := rfl
@[simp] theorem done_sr : (s.done).sr = s.sr := rfl
@[simp] theorem done_stage : (s.done).stage = s.stage := rfl
@[simp] theorem done_tracker : (s.done).tracker = s.tracker := rfl
@[simp] theorem done_swap : (s.done).swap = s.swap := rfl
@[simp] theorem done_banks : (s.done).banks = s.banks := rfl
@[simp] theorem done_medium : (s.done).medium = s.medium := rfl
@[simp] theorem done_mediumReplies : (s.done).mediumReplies = s.mediumReplies := rfl
@[simp] theorem done_mediumFailures : (s.done).mediumFailures = s.mediumFailures := rfl
@[simp] theorem done_requests : (s.done).requests = s.requests := rfl
@[simp] theorem done_response : (s.done).response = none := rfl

/-! ### `answer` -/

@[simp] theorem answer_attached (v : Word) : (s.answer v).attached = s.attached := rfl
@[simp] theorem answer_cr (v : Word) : (s.answer v).cr = s.cr := rfl
@[simp] theorem answer_sr (v : Word) : (s.answer v).sr = s.sr := rfl
@[simp] theorem answer_stage (v : Word) : (s.answer v).stage = s.stage := rfl
@[simp] theorem answer_tracker (v : Word) : (s.answer v).tracker = s.tracker := rfl
@[simp] theorem answer_swap (v : Word) : (s.answer v).swap = s.swap := rfl
@[simp] theorem answer_banks (v : Word) : (s.answer v).banks = s.banks := rfl
@[simp] theorem answer_medium (v : Word) : (s.answer v).medium = s.medium := rfl
@[simp] theorem answer_mediumReplies (v : Word) : (s.answer v).mediumReplies = s.mediumReplies := rfl
@[simp] theorem answer_mediumFailures (v : Word) : (s.answer v).mediumFailures = s.mediumFailures := rfl
@[simp] theorem answer_requests (v : Word) : (s.answer v).requests = s.requests := rfl
@[simp] theorem answer_response (v : Word) : (s.answer v).response = some v := rfl

/-! ### `initRegisters` -/

@[simp] theorem initRegisters_attached : (initRegisters s).attached = s.attached := rfl
@[simp] theorem initRegisters_cr : (initRegisters s).cr = 0x80000000#32 := rfl
@[simp] theorem initRegisters_sr : (initRegisters s).sr = 0x00000000#32 := rfl
@[simp] theorem initRegisters_stage : (initRegisters s).stage = Stage.zero := rfl
@[simp] theorem initRegisters_tracker : (initRegisters s).tracker = none := rfl
@[simp] theorem initRegisters_swap : (initRegisters s).swap = s.swap := rfl
@[simp] theorem initRegisters_banks : (initRegisters s).banks = s.banks := rfl
@[simp] theorem initRegisters_medium : (initRegisters s).medium = s.medium := rfl
@[simp] theorem initRegisters_mediumReplies : (initRegisters s).mediumReplies = s.mediumReplies := rfl
@[simp] theorem initRegisters_mediumFailures : (initRegisters s).mediumFailures = s.mediumFailures := rfl
@[simp] theorem initRegisters_requests : (initRegisters s).requests = s.requests := rfl
@[simp] theorem initRegisters_response : (initRegisters s).response = s.response := rfl

end Sys2Proof.Machine
end

