-- ==== Sys2Proof/Laws/Memory.lean ====
section
/-! SUPPORT. What the operations over byte storage read back, and that each keeps the canonical
form. -/

namespace Sys2Proof.Machine

/-! ### Reading -/

@[simp] theorem read_nil (a : Nat) : Memory.read [] a = 0xFF#8 := rfl

@[simp] theorem read_cons (c : Host.Cell) (m : Memory) (a : Nat) :
    Memory.read (c :: m) a = if c.1 = a then c.2 else Memory.read m a := rfl

theorem read_unlisted (m : Memory) (a : Nat) (h : ∀ c ∈ m, c.1 ≠ a) : m.read a = 0xFF#8 := by
  induction m with
  | nil => rfl
  | cons c m ih =>
    rw [read_cons, if_neg (h c (by simp)), ih fun d hd => h d (by simp [hd])]

theorem read_append_unlisted (m m' : Memory) (a : Nat) (h : ∀ c ∈ m, c.1 ≠ a) :
    Memory.read (m ++ m') a = m'.read a := by
  induction m with
  | nil => rfl
  | cons c m ih =>
    rw [List.cons_append, read_cons, if_neg (h c (by simp)), ih fun d hd => h d (by simp [hd])]

theorem read_append_right_unlisted (m m' : Memory) (a : Nat) (h : ∀ c ∈ m', c.1 ≠ a) :
    Memory.read (m ++ m') a = m.read a := by
  induction m with
  | nil => simpa using read_unlisted m' a h
  | cons c m ih => rw [List.cons_append, read_cons, read_cons, ih]

theorem read_filter (m : Memory) (p : Host.Cell → Bool) (a : Nat)
    (h : ∀ c ∈ m, c.1 = a → p c = true) : Memory.read (m.filter p) a = m.read a := by
  induction m with
  | nil => rfl
  | cons c m ih =>
    have ih := ih fun d hd => h d (by simp [hd])
    by_cases hc : p c = true
    · rw [List.filter_cons_of_pos hc, read_cons, read_cons, ih]
    · have : c.1 ≠ a := fun e => hc (h c (by simp) e)
      rw [List.filter_cons_of_neg hc, read_cons, if_neg this, ih]

theorem mem_listed {lo : Nat} {bs : List Byte} {c : Host.Cell} (h : c ∈ listed lo bs) :
    lo ≤ c.1 ∧ c.1 < lo + bs.length ∧ c.2 ≠ 0xFF#8 := by
  induction bs generalizing lo with
  | nil => simp [listed] at h
  | cons b bs ih =>
    simp only [listed] at h
    split at h
    · have := ih h
      simp only [List.length_cons]
      exact ⟨by omega, by omega, this.2.2⟩
    · rename_i hb
      rcases List.mem_cons.mp h with rfl | h
      · exact ⟨Nat.le_refl _, by simp, hb⟩
      · have := ih h
        simp only [List.length_cons]
        exact ⟨by omega, by omega, this.2.2⟩

theorem read_listed (lo : Nat) (bs : List Byte) (a : Nat) :
    Memory.read (listed lo bs) a =
      if lo ≤ a ∧ a < lo + bs.length then bs.getD (a - lo) 0xFF#8 else 0xFF#8 := by
  induction bs generalizing lo with
  | nil => simp [listed]
  | cons b bs ih =>
    by_cases ha : a = lo
    · subst ha
      simp only [listed]
      split
      · rename_i hb
        rw [ih]; simp_all
      · simp
    · have hstep : Memory.read (listed lo (b :: bs)) a = Memory.read (listed (lo + 1) bs) a := by
        simp only [listed]
        split
        · rfl
        · rw [read_cons, if_neg (Ne.symm ha)]
      rw [hstep, ih]
      by_cases hr : lo + 1 ≤ a ∧ a < lo + 1 + bs.length
      · have hr' : lo ≤ a ∧ a < lo + (b :: bs).length := by simp; omega
        rw [if_pos hr, if_pos hr', show a - lo = a - (lo + 1) + 1 by omega, List.getD_cons_succ]
      · have hr' : ¬ (lo ≤ a ∧ a < lo + (b :: bs).length) := by simp; omega
        rw [if_neg hr, if_neg hr']

/-- All that `splice` does to one byte. -/
theorem read_splice (m : Memory) (lo : Nat) (bs : List Byte) (a : Nat) :
    Memory.read (m.splice lo bs) a =
      if lo ≤ a ∧ a < lo + bs.length then bs.getD (a - lo) 0xFF#8 else m.read a := by
  unfold Memory.splice
  by_cases ha : a < lo
  · have hin : ¬ (lo ≤ a ∧ a < lo + bs.length) := by omega
    rw [read_append_right_unlisted, read_append_right_unlisted, read_filter, if_neg hin]
    · intro c _ hc; simpa using by omega
    · intro c hc; have := mem_listed hc; omega
    · intro c hc; have := (List.mem_filter.mp hc).2; simp at this; omega
  · rw [List.append_assoc, read_append_unlisted]
    · by_cases hb : a < lo + bs.length
      · rw [read_append_right_unlisted, read_listed]
        · simp only [Nat.not_lt.mp ha, hb, and_self, if_true]
        · intro c hc; have := (List.mem_filter.mp hc).2; simp at this; omega
      · have hin : ¬ (lo ≤ a ∧ a < lo + bs.length) := by omega
        rw [read_append_unlisted, read_filter, if_neg hin]
        · intro c _ hc; simpa using by omega
        · intro c hc; have := mem_listed hc; omega
    · intro c hc; have := (List.mem_filter.mp hc).2; simp at this; omega

/-- All that `eraseRange` does to one byte. -/
theorem read_eraseRange (m : Memory) (lo n a : Nat) :
    Memory.read (m.eraseRange lo n) a = if lo ≤ a ∧ a < lo + n then 0xFF#8 else m.read a := by
  unfold Memory.eraseRange
  by_cases ha : lo ≤ a ∧ a < lo + n
  · rw [if_pos ha, read_unlisted]
    intro c hc e
    have := (List.mem_filter.mp hc).2
    simp at this; omega
  · rw [if_neg ha, read_filter]
    intro c _ hc
    simp; omega

/-- The byte a write lays down at `lo + k`. -/
def payloadByte : Payload → Nat → Byte
  | .word v, k => byteOf v k
  | .erased _, _ => 0xFF#8

/-- All that `put` does to one byte. -/
theorem read_put (m : Memory) (lo : Nat) (p : Payload) (a : Nat) :
    Memory.read (m.put lo p) a =
      if lo ≤ a ∧ a < lo + payloadSize p then payloadByte p (a - lo) else m.read a := by
  cases p with
  | erased n => exact read_eraseRange m lo n a
  | word v =>
    rw [Memory.put, read_splice]
    by_cases ha : lo ≤ a ∧ a < lo + 4
    · rw [if_pos (by simpa [wordBytes] using ha), if_pos (by simpa [payloadSize] using ha)]
      obtain h | h | h | h : a - lo = 0 ∨ a - lo = 1 ∨ a - lo = 2 ∨ a - lo = 3 := by omega
      all_goals simp [h, wordBytes, payloadByte]
    · rw [if_neg (by simpa [wordBytes] using ha), if_neg (by simpa [payloadSize] using ha)]

/-! ### The canonical form -/

theorem wf_nil : Memory.wf [] := by simp [Memory.wf]

theorem wf_filter {m : Memory} (h : m.wf) (p : Host.Cell → Bool) : Memory.wf (m.filter p) :=
  ⟨h.1.filter p, fun c hc => h.2 c (List.mem_filter.mp hc).1⟩

theorem listed_pairwise (lo : Nat) (bs : List Byte) :
    (listed lo bs).Pairwise (fun a b => a.1 < b.1) := by
  induction bs generalizing lo with
  | nil => simp [listed]
  | cons b bs ih =>
    simp only [listed]
    split
    · exact ih _
    · exact List.pairwise_cons.mpr ⟨fun c hc => by have := mem_listed hc; omega, ih _⟩

theorem wf_splice {m : Memory} (h : m.wf) {lo : Nat} {bs : List Byte}
    (hb : lo + bs.length ≤ 0x100000) : Memory.wf (m.splice lo bs) := by
  constructor
  · refine List.pairwise_append.mpr ⟨List.pairwise_append.mpr
      ⟨h.1.filter _, listed_pairwise _ _, ?_⟩, h.1.filter _, ?_⟩
    · intro c hc d hd
      have h1 := (List.mem_filter.mp hc).2
      have h2 := mem_listed hd
      simp at h1; omega
    · intro c hc d hd
      have h2 := (List.mem_filter.mp hd).2
      simp at h2
      rcases List.mem_append.mp hc with hc | hc
      · have h1 := (List.mem_filter.mp hc).2
        simp at h1; omega
      · have h1 := mem_listed hc; omega
  · intro c hc
    rcases List.mem_append.mp hc with hc | hc
    · rcases List.mem_append.mp hc with hc | hc
      · exact h.2 c (List.mem_filter.mp hc).1
      · have h1 := mem_listed hc
        exact ⟨h1.2.2, by simp; omega⟩
    · exact h.2 c (List.mem_filter.mp hc).1

theorem wf_eraseRange {m : Memory} (h : m.wf) (lo n : Nat) : Memory.wf (m.eraseRange lo n) :=
  wf_filter h _

theorem wf_put {m : Memory} (h : m.wf) {lo : Nat} {p : Payload}
    (hb : lo + payloadSize p ≤ 0x100000) : Memory.wf (m.put lo p) := by
  cases p with
  | erased n => exact wf_eraseRange h lo n
  | word v => exact wf_splice h (by simpa [wordBytes, payloadSize] using hb)

/-- An erase is a write of erased bytes. -/
theorem eraseRange_read_eq_splice (m : Memory) (lo n a : Nat) :
    Memory.read (m.eraseRange lo n) a = Memory.read (m.splice lo (List.replicate n 0xFF#8)) a := by
  rw [read_eraseRange, read_splice, List.length_replicate]
  split
  · rename_i h
    rw [List.getD_eq_getElem _ _ (by simpa using by omega), List.getElem_replicate]
  · rfl

end Sys2Proof.Machine
end

