-- ==== Sys2Proof/Laws/Ops.lean ====
section
/-! SUPPORT. What each shared operation over registers, banks and medium can do, said once. -/

namespace Sys2Proof.Machine

variable (s : State)

/-! ### The medium write (rule R43) -/

@[simp] theorem mediumWrite_attached (moff : Nat) (p : Payload) :
    (mediumWrite s moff p).attached = s.attached := by
  unfold mediumWrite; split <;> rfl

@[simp] theorem mediumWrite_cr (moff : Nat) (p : Payload) :
    (mediumWrite s moff p).cr = s.cr := by
  unfold mediumWrite; split <;> rfl

@[simp] theorem mediumWrite_sr (moff : Nat) (p : Payload) :
    (mediumWrite s moff p).sr = s.sr := by
  unfold mediumWrite; split <;> rfl

@[simp] theorem mediumWrite_stage (moff : Nat) (p : Payload) :
    (mediumWrite s moff p).stage = s.stage := by
  unfold mediumWrite; split <;> rfl

@[simp] theorem mediumWrite_tracker (moff : Nat) (p : Payload) :
    (mediumWrite s moff p).tracker = s.tracker := by
  unfold mediumWrite; split <;> rfl

@[simp] theorem mediumWrite_swap (moff : Nat) (p : Payload) :
    (mediumWrite s moff p).swap = s.swap := by
  unfold mediumWrite; split <;> rfl

@[simp] theorem mediumWrite_banks (moff : Nat) (p : Payload) :
    (mediumWrite s moff p).banks = s.banks := by
  unfold mediumWrite; split <;> rfl

@[simp] theorem mediumWrite_requests (moff : Nat) (p : Payload) :
    (mediumWrite s moff p).requests = s.requests := by
  unfold mediumWrite; split <;> rfl

@[simp] theorem mediumWrite_response (moff : Nat) (p : Payload) :
    (mediumWrite s moff p).response = s.response := by
  unfold mediumWrite; split <;> rfl

@[simp] theorem mediumWrite_mediumReplies (moff : Nat) (p : Payload) :
    (mediumWrite s moff p).mediumReplies = s.mediumReplies.tail := by
  unfold mediumWrite; split <;> simp_all [persistenceWriteFailure]

/-- The medium's answer to the next medium write. -/
def nextReply : MediumReply := s.mediumReplies.headD .stored

/-- A medium write that the medium stores. -/
theorem mediumWrite_stored (moff : Nat) (p : Payload) (h : nextReply s = .stored) :
    (mediumWrite s moff p).medium = s.medium.put moff p ∧
      (mediumWrite s moff p).mediumFailures = s.mediumFailures := by
  unfold nextReply at h; unfold mediumWrite
  split <;> simp_all

/-- A medium write that fails: any bytes in the range, and the counter advances. -/
theorem mediumWrite_failed (moff : Nat) (p : Payload) (h : nextReply s = .failed) :
    (mediumWrite s moff p).medium =
        s.medium.splice moff (failedBytes s.mediumFailures moff (payloadSize p)) ∧
      (mediumWrite s moff p).mediumFailures = s.mediumFailures + 1 := by
  unfold nextReply at h; unfold mediumWrite
  split <;> simp_all [persistenceWriteFailure]

theorem failedBytes_length (k lo n : Nat) : (failedBytes k lo n).length = n := by
  simp [failedBytes]

/-- Outside the written range the medium is as before, stored or failed. -/
theorem mediumWrite_read_outside (moff : Nat) (p : Payload) (a : Nat)
    (h : ¬ (moff ≤ a ∧ a < moff + payloadSize p)) :
    (mediumWrite s moff p).medium.read a = s.medium.read a := by
  cases hr : nextReply s with
  | stored => rw [(mediumWrite_stored s moff p hr).1, read_put, if_neg h]
  | failed =>
    rw [(mediumWrite_failed s moff p hr).1, read_splice, failedBytes_length, if_neg h]

theorem mediumWrite_wf (moff : Nat) (p : Payload) (h : s.medium.wf)
    (hb : moff + payloadSize p ≤ 0x100000) : (mediumWrite s moff p).medium.wf := by
  cases hr : nextReply s with
  | stored => rw [(mediumWrite_stored s moff p hr).1]; exact wf_put h hb
  | failed =>
    rw [(mediumWrite_failed s moff p hr).1]
    exact wf_splice h (by rw [failedBytes_length]; exact hb)

/-! ### A write to banks and medium (rule R44) -/

@[simp] theorem storeMirrored_attached (moff : Nat) (p : Payload) :
    (storeMirrored s moff p).attached = s.attached := by simp [storeMirrored]

@[simp] theorem storeMirrored_cr (moff : Nat) (p : Payload) :
    (storeMirrored s moff p).cr = s.cr := by simp [storeMirrored]

@[simp] theorem storeMirrored_sr (moff : Nat) (p : Payload) :
    (storeMirrored s moff p).sr = s.sr := by simp [storeMirrored]

@[simp] theorem storeMirrored_stage (moff : Nat) (p : Payload) :
    (storeMirrored s moff p).stage = s.stage := by simp [storeMirrored]

@[simp] theorem storeMirrored_tracker (moff : Nat) (p : Payload) :
    (storeMirrored s moff p).tracker = s.tracker := by simp [storeMirrored]

@[simp] theorem storeMirrored_swap (moff : Nat) (p : Payload) :
    (storeMirrored s moff p).swap = s.swap := by simp [storeMirrored]

@[simp] theorem storeMirrored_requests (moff : Nat) (p : Payload) :
    (storeMirrored s moff p).requests = s.requests := by simp [storeMirrored]

@[simp] theorem storeMirrored_response (moff : Nat) (p : Payload) :
    (storeMirrored s moff p).response = s.response := by simp [storeMirrored]

@[simp] theorem storeMirrored_banks (moff : Nat) (p : Payload) :
    (storeMirrored s moff p).banks = s.banks.put moff p := by simp [storeMirrored]

@[simp] theorem storeMirrored_mediumReplies (moff : Nat) (p : Payload) :
    (storeMirrored s moff p).mediumReplies = s.mediumReplies.tail := by simp [storeMirrored]

/-- Where the medium stores, it takes what the banks take. -/
theorem storeMirrored_stored (moff : Nat) (p : Payload) (h : nextReply s = .stored) :
    (storeMirrored s moff p).medium = s.medium.put moff p ∧
      (storeMirrored s moff p).mediumFailures = s.mediumFailures :=
  mediumWrite_stored (s.setBanks (s.banks.put moff p)) moff p h

theorem storeMirrored_failed (moff : Nat) (p : Payload) (h : nextReply s = .failed) :
    (storeMirrored s moff p).medium =
        s.medium.splice moff (failedBytes s.mediumFailures moff (payloadSize p)) ∧
      (storeMirrored s moff p).mediumFailures = s.mediumFailures + 1 :=
  mediumWrite_failed (s.setBanks (s.banks.put moff p)) moff p h

theorem storeMirrored_read_outside (moff : Nat) (p : Payload) (a : Nat)
    (h : ¬ (moff ≤ a ∧ a < moff + payloadSize p)) :
    (storeMirrored s moff p).banks.read a = s.banks.read a ∧
      (storeMirrored s moff p).medium.read a = s.medium.read a := by
  constructor
  · rw [storeMirrored_banks, read_put, if_neg h]
  · exact mediumWrite_read_outside (s.setBanks (s.banks.put moff p)) moff p a h

theorem storeMirrored_medium_wf (moff : Nat) (p : Payload) (h : s.medium.wf)
    (hb : moff + payloadSize p ≤ 0x100000) : (storeMirrored s moff p).medium.wf :=
  mediumWrite_wf (s.setBanks (s.banks.put moff p)) moff p h hb

theorem storeMirrored_banks_wf (moff : Nat) (p : Payload) (h : s.banks.wf)
    (hb : moff + payloadSize p ≤ 0x100000) : (storeMirrored s moff p).banks.wf := by
  rw [storeMirrored_banks]; exact wf_put h hb

/-! ### Addresses (rules R31 to R33, R45) -/

theorem phys_le_one (swap : Bool) (lb : Nat) (h : lb ≤ 1) : phys swap lb ≤ 1 := by
  unfold phys; split <;> omega

theorem physOffset_lt (swap : Bool) (off : Nat) (h : off < 0x100000) :
    physOffset swap off < 0x100000 := by
  have := phys_le_one swap (logicalBank off) (by simp [logicalBank]; omega)
  simp only [physOffset, medOff, bankOffset, Config.bankSize]
  omega

theorem physOffset_aligned (swap : Bool) (off : Nat) (h : off < 0x100000) (ha : off % 4 = 0) :
    physOffset swap off % 4 = 0 ∧ physOffset swap off + 4 ≤ 0x100000 := by
  have := phys_le_one swap (logicalBank off) (by simp [logicalBank]; omega)
  simp only [physOffset, medOff, bankOffset, Config.bankSize]
  omega

/-- The cell of an aligned offset is the word at its place in the banks (rules R33, R44). -/
theorem cellAt_eq (off : Nat) (ha : off % 4 = 0) :
    cellAt s off = s.banks.readWord (physOffset s.swap off) := by
  simp only [cellAt, bankWord, physOffset, medOff, bankOffset, Config.bankSize]
  congr 1; omega

theorem pageStart_bound (swap : Bool) (bank page : Nat) (hb : bank ≤ 1) (hp : page < 256) :
    pageStart swap bank page + 2048 ≤ 0x100000 := by
  have := phys_le_one swap bank hb
  simp only [pageStart, medOff, Config.bankSize, Config.pageSize]
  omega

theorem bankStart_bound (swap : Bool) (bank : Nat) (hb : bank ≤ 1) :
    medOff (phys swap bank) 0 + 0x80000 ≤ 0x100000 := by
  have := phys_le_one swap bank hb
  simp only [medOff, Config.bankSize]
  omega

theorem bankIndex_le_one (cr : Word) : bankIndex cr ≤ 1 := by
  have := (cr.extractLsb' Config.crBker 1).isLt
  unfold bankIndex; omega

theorem pageIndex_lt (cr : Word) : pageIndex cr < 256 := by
  have := (cr.extractLsb' Config.pnbLo Config.pnbWidth).isLt
  unfold pageIndex
  simp only [Config.pnbLo, Config.pnbWidth] at this ⊢
  omega

/-! ### An operation on an instance -/

@[simp] theorem onInstance_attached (r : Result) (h : s.attached = true) :
    s.onInstance r = r := by simp [State.onInstance, h]

@[simp] theorem onInstance_detached (r : Result) (h : s.attached = false) :
    s.onInstance r = .refused .noInstance := by simp [State.onInstance, h]

/-- If an operation on an instance answers a next state, an instance existed. -/
theorem onInstance_next {r : Result} {t : State} (h : s.onInstance r = .next t) :
    s.attached = true ∧ r = .next t := by
  unfold State.onInstance at h
  split at h
  · exact ⟨‹_›, h⟩
  · cases h

end Sys2Proof.Machine
end

