-- ==== Sys2Proof/Laws/Steps.lean ====
section
/-! SUPPORT. What each effect of a KEYR write, of a CR write and of a flash store leaves, field by
field. -/

namespace Sys2Proof.Machine

variable (s : State)

/-! ### The erase sub-operations (rules R84 to R86, R122) -/

@[simp] theorem crPerStep_attached : (crPerStep s).attached = s.attached := by
  simp [crPerStep, endOfOperation, pageErase]

@[simp] theorem crPerStep_cr : (crPerStep s).cr = s.cr := by
  simp [crPerStep, endOfOperation, pageErase]

@[simp] theorem crPerStep_stage : (crPerStep s).stage = s.stage := by
  simp [crPerStep, endOfOperation, pageErase]

@[simp] theorem crPerStep_tracker : (crPerStep s).tracker = s.tracker := by
  simp [crPerStep, endOfOperation, pageErase]

@[simp] theorem crPerStep_swap : (crPerStep s).swap = s.swap := by
  simp [crPerStep, endOfOperation, pageErase]

@[simp] theorem crPerStep_requests : (crPerStep s).requests = s.requests := by
  simp [crPerStep, endOfOperation, pageErase]

@[simp] theorem crPerStep_response : (crPerStep s).response = s.response := by
  simp [crPerStep, endOfOperation, pageErase]

@[simp] theorem crPerStep_sr : (crPerStep s).sr = setEop s.sr := by
  simp [crPerStep, endOfOperation, pageErase]

@[simp] theorem crPerStep_locked : (crPerStep s).locked = s.locked := by simp [State.locked]

@[simp] theorem crMer1Step_attached : (crMer1Step s).attached = s.attached := by
  simp [crMer1Step, endOfOperation, massErase]

@[simp] theorem crMer1Step_cr : (crMer1Step s).cr = s.cr := by
  simp [crMer1Step, endOfOperation, massErase]

@[simp] theorem crMer1Step_stage : (crMer1Step s).stage = s.stage := by
  simp [crMer1Step, endOfOperation, massErase]

@[simp] theorem crMer1Step_tracker : (crMer1Step s).tracker = s.tracker := by
  simp [crMer1Step, endOfOperation, massErase]

@[simp] theorem crMer1Step_swap : (crMer1Step s).swap = s.swap := by
  simp [crMer1Step, endOfOperation, massErase]

@[simp] theorem crMer1Step_requests : (crMer1Step s).requests = s.requests := by
  simp [crMer1Step, endOfOperation, massErase]

@[simp] theorem crMer1Step_response : (crMer1Step s).response = s.response := by
  simp [crMer1Step, endOfOperation, massErase]

@[simp] theorem crMer1Step_sr : (crMer1Step s).sr = setEop s.sr := by
  simp [crMer1Step, endOfOperation, massErase]

@[simp] theorem crMer1Step_locked : (crMer1Step s).locked = s.locked := by simp [State.locked]

@[simp] theorem crMer2Step_attached : (crMer2Step s).attached = s.attached := by
  simp [crMer2Step, endOfOperation, massErase]

@[simp] theorem crMer2Step_cr : (crMer2Step s).cr = s.cr := by
  simp [crMer2Step, endOfOperation, massErase]

@[simp] theorem crMer2Step_stage : (crMer2Step s).stage = s.stage := by
  simp [crMer2Step, endOfOperation, massErase]

@[simp] theorem crMer2Step_tracker : (crMer2Step s).tracker = s.tracker := by
  simp [crMer2Step, endOfOperation, massErase]

@[simp] theorem crMer2Step_swap : (crMer2Step s).swap = s.swap := by
  simp [crMer2Step, endOfOperation, massErase]

@[simp] theorem crMer2Step_requests : (crMer2Step s).requests = s.requests := by
  simp [crMer2Step, endOfOperation, massErase]

@[simp] theorem crMer2Step_response : (crMer2Step s).response = s.response := by
  simp [crMer2Step, endOfOperation, massErase]

@[simp] theorem crMer2Step_sr : (crMer2Step s).sr = setEop s.sr := by
  simp [crMer2Step, endOfOperation, massErase]

@[simp] theorem crMer2Step_locked : (crMer2Step s).locked = s.locked := by simp [State.locked]

/-! ### The store and the lock (rules R81 to R83) -/

@[simp] theorem crStoreStep_locked (data : Word) : (crStoreStep s data).locked = s.locked := by
  simp [State.locked, crStoreStep, storeCr]

@[simp] theorem crLockStep_locked : (crLockStep s).locked = true := by
  simp [State.locked, crLockStep, setLock]

@[simp] theorem crLockStep_stage : (crLockStep s).stage = .zero := rfl

@[simp] theorem done_locked : s.done.locked = s.locked := rfl

@[simp] theorem answer_locked (v : Word) : (s.answer v).locked = s.locked := rfl

/-! ### The keys (rules R75, R76), as one field update each -/

theorem keyrKey1_eq : keyrKey1 s = s.setStage (if s.stage = .zero then .one else .zero) := by
  unfold keyrKey1
  cases h : s.stage <;> simp

theorem keyrKey2_eq :
    keyrKey2 s =
      (s.setCr (if s.stage = .one then clearLock s.cr else s.cr)).setStage .zero := by
  unfold keyrKey2
  cases h : s.stage <;> rfl

/-! ### The program path (rules R102 to R105) -/

/-- A pair's advance touches the tracker and `SR` alone. -/
theorem advancePair_eq (off : FlashOffset) :
    advancePair s off =
      (s.setTracker (if s.tracker = none then some off else none)).setSr
        (if s.tracker = none then setBsy s.sr else setEop (clearBsy s.sr)) := by
  unfold advancePair
  cases h : s.tracker <;> rfl

/-- A violation touches `SR` and the tracker alone. -/
theorem raiseViolation_eq (cause : ViolationCause) :
    raiseViolation s cause =
      (s.setSr (if cause = .startLocked then setProgErr s.sr
        else setProgErr (clearBsy s.sr))).setTracker
          (if cause = .startLocked then s.tracker else none) := by
  cases cause <;> rfl

end Sys2Proof.Machine
end

