-- ==== Sys2Proof/Laws/Exec.lean ====
section
/-! SUPPORT. What `exec` and `step` can do, said once: every operation that answers a next state,
the effect it had. -/

namespace Sys2Proof.Machine

/-- A relation that every building block of a CR write keeps, and that composes, holds between a
state and the state a CR write leaves (rule R80). -/
theorem crWrite_induction (P : State → State → Prop) (s : State) (data : Word)
    (hrefl : ∀ u, P u u) (htrans : ∀ u v w, P u v → P v w → P u w)
    (hlock : data.getLsbD 31 = true → P s (crLockStep s))
    (hstore : data.getLsbD 31 = false → P s (crStoreStep s data))
    (hviolation : ∀ u, u.locked = true → P u (crStrtLockedStep u))
    (hper : ∀ u, u.locked = false → P u (crPerStep u))
    (hmer1 : ∀ u, u.locked = false → P u (crMer1Step u))
    (hmer2 : ∀ u, u.locked = false → P u (crMer2Step u)) : P s (crWrite s data) := by
  have request : ∀ (b : Bool) (f : State → State) (u v : State),
      P u v → v.locked = false → P v (f v) → (f v).locked = v.locked →
      P u (if b then f v else v) ∧ (if b then f v else v).locked = false := by
    intro b f u v huv hv hf hl
    cases b
    · exact ⟨huv, hv⟩
    · exact ⟨htrans _ _ _ huv hf, hl.trans hv⟩
  unfold crWrite
  split
  · exact hlock ‹_›
  · rename_i h
    have hs := hstore (by simpa using h)
    dsimp only
    split
    · split
      · exact htrans _ _ _ hs (hviolation _ ‹_›)
      · rename_i hl
        have hl : (crStoreStep s data).locked = false := by simpa using hl
        have h1 := request (data.getLsbD Config.crPer) crPerStep _ _ (hrefl _) hl
          (hper _ hl) (crPerStep_locked _)
        have h2 := request (data.getLsbD Config.crMer1) crMer1Step _ _ h1.1 h1.2
          (hmer1 _ h1.2) (crMer1Step_locked _)
        have h3 := request (data.getLsbD Config.crMer2) crMer2Step _ _ h2.1 h2.2
          (hmer2 _ h2.2) (crMer2Step_locked _)
        exact htrans _ _ _ hs h3.1
    · exact hs

/-- The effect of an operation on an instance, its field out aside. -/
inductive Effect : Instr → State → State → Prop where
  | acrRd (s) : Effect .acrRd s s
  | acrWr (s data) : Effect (.acrWr data) s s
  | keyrRd (s) : Effect .keyrRd s s
  | srRd (s) : Effect .srRd s s
  | crRd (s) : Effect .crRd s s
  | unkRd (s roff) : Effect (.unkRd roff) s s
  | unkWr (s roff data) : Effect (.unkWr roff data) s s
  | flashRd (s off n) : Effect (.flashRd off n) s s
  | keyrWrFirst (s) : Effect (.keyrWr Config.key1) s (keyrKey1 s)
  | keyrWrSecond (s) : Effect (.keyrWr Config.key2) s (keyrKey2 s)
  | keyrWrOthers (s data) (h1 : data ≠ Config.key1) (h2 : data ≠ Config.key2) :
    Effect (.keyrWr data) s (keyrOther s)
  | keyrWrKey1 (s) : Effect .keyrWrKey1 s (keyrKey1 s)
  | keyrWrKey2 (s) : Effect .keyrWrKey2 s (keyrKey2 s)
  | keyrWrOther (s data) : Effect (.keyrWrOther data) s (keyrOther s)
  | srWr (s data) : Effect (.srWr data) s
      ((s.setSr (clearFlags s.sr data)).setCr
        (if data.getLsbD Config.srBsy then clearStrt s.cr else s.cr))
  | crWr (s data) : Effect (.crWr data) s (crWrite s data)
  | crWrLock (s data) : Effect (.crWrLock data) s (crLockStep s)
  | crWrStore (s data) : Effect (.crWrStore data) s (crStoreStep s data)
  | crWrStrtLocked (s data) (h : s.locked = true) :
    Effect (.crWrStrtLocked data) s (crStrtLockedStep s)
  | crWrStrtLockedIdle (s data) (h : s.locked = false) : Effect (.crWrStrtLocked data) s s
  | crWrPer (s data) (h : s.locked = false) : Effect (.crWrPer data) s (crPerStep s)
  | crWrPerIdle (s data) (h : s.locked = true) : Effect (.crWrPer data) s s
  | crWrMer1 (s data) (h : s.locked = false) : Effect (.crWrMer1 data) s (crMer1Step s)
  | crWrMer1Idle (s data) (h : s.locked = true) : Effect (.crWrMer1 data) s s
  | crWrMer2 (s data) (h : s.locked = false) : Effect (.crWrMer2 data) s (crMer2Step s)
  | crWrMer2Idle (s data) (h : s.locked = true) : Effect (.crWrMer2 data) s s
  | flashWrFails (s off data cause) (h : programCheck s off = some cause) :
    Effect (.flashWr off data) s (raiseViolation s cause)
  | flashWrStores (s off data) (h : programCheck s off = none) :
    Effect (.flashWr off data) s (storeCell (advancePair s off) off.toNat data)
  | reset (s) : Effect .reset s (initRegisters s)
  | detach (s) : Effect .detach s (discardInstance s)

/-- The medium an ATTACH takes, and the state it creates the instance from (rule R130). -/
inductive AttachSource : MediumArg → State → State → Prop where
  | same (s) : AttachSource .same s s
  | image (s cells) : AttachSource (.image true 0x100000 cells) s (s.withMedium cells)

/-- All that `exec` can answer as a next state. -/
theorem exec_next_cases {i : Instr} {s t : State} (h : exec i s = .next t) :
    (s.attached = false ∧ ∃ m u, i = .attach m ∧ AttachSource m s u ∧ t = (createInstance u).done) ∨
    (s.attached = true ∧ ∃ u r, Effect i s u ∧ t = { u with response := r }) := by
  cases i with
  | attach m =>
    left
    simp only [exec, execAttach] at h
    split at h
    · cases h
    · refine ⟨by simp_all, m, ?_⟩
      cases m with
      | same => cases h; exact ⟨s, rfl, .same s, rfl⟩
      | absent => cases h
      | image writable size cells =>
        simp only [attachMedium] at h
        split at h
        · cases h
        · split at h
          · cases h
          · cases h
            simp_all
            exact ⟨_, .image s cells, rfl⟩
  | flashWr off data =>
    obtain ⟨ha, h⟩ := onInstance_next s h
    split at h <;> cases h
    · exact .inr ⟨ha, _, none, .flashWrFails s off data _ ‹_›, rfl⟩
    · exact .inr ⟨ha, _, none, .flashWrStores s off data ‹_›, rfl⟩
  | flashRd off n =>
    obtain ⟨ha, h⟩ := onInstance_next s h
    split at h <;> cases h
    exact .inr ⟨ha, _, _, .flashRd s off n, rfl⟩
  | keyrWr data =>
    obtain ⟨ha, h⟩ := onInstance_next s h
    cases h
    split
    · subst_vars; exact .inr ⟨ha, _, none, .keyrWrFirst s, rfl⟩
    · split
      · subst_vars; exact .inr ⟨ha, _, none, .keyrWrSecond s, rfl⟩
      · exact .inr ⟨ha, _, none, .keyrWrOthers s data ‹_› ‹_›, rfl⟩
  | srWr data =>
    obtain ⟨ha, h⟩ := onInstance_next s h
    cases h
    refine .inr ⟨ha, _, none, .srWr s data, ?_⟩
    split <;> rfl
  | crWrStrtLocked data =>
    obtain ⟨ha, h⟩ := onInstance_next s h
    cases h
    split <;> rename_i hl
    · exact .inr ⟨ha, _, none, .crWrStrtLocked s data hl, rfl⟩
    · exact .inr ⟨ha, _, none, .crWrStrtLockedIdle s data (by simpa using hl), rfl⟩
  | crWrPer data =>
    obtain ⟨ha, h⟩ := onInstance_next s h
    cases h
    split <;> rename_i hl
    · exact .inr ⟨ha, _, none, .crWrPerIdle s data hl, rfl⟩
    · exact .inr ⟨ha, _, none, .crWrPer s data (by simpa using hl), rfl⟩
  | crWrMer1 data =>
    obtain ⟨ha, h⟩ := onInstance_next s h
    cases h
    split <;> rename_i hl
    · exact .inr ⟨ha, _, none, .crWrMer1Idle s data hl, rfl⟩
    · exact .inr ⟨ha, _, none, .crWrMer1 s data (by simpa using hl), rfl⟩
  | crWrMer2 data =>
    obtain ⟨ha, h⟩ := onInstance_next s h
    cases h
    split <;> rename_i hl
    · exact .inr ⟨ha, _, none, .crWrMer2Idle s data hl, rfl⟩
    · exact .inr ⟨ha, _, none, .crWrMer2 s data (by simpa using hl), rfl⟩
  | acrRd => obtain ⟨ha, h⟩ := onInstance_next s h; cases h; exact .inr ⟨ha, _, _, .acrRd s, rfl⟩
  | acrWr d => obtain ⟨ha, h⟩ := onInstance_next s h; cases h; exact .inr ⟨ha, _, _, .acrWr s d, rfl⟩
  | keyrRd => obtain ⟨ha, h⟩ := onInstance_next s h; cases h; exact .inr ⟨ha, _, _, .keyrRd s, rfl⟩
  | keyrWrKey1 =>
    obtain ⟨ha, h⟩ := onInstance_next s h; cases h; exact .inr ⟨ha, _, _, .keyrWrKey1 s, rfl⟩
  | keyrWrKey2 =>
    obtain ⟨ha, h⟩ := onInstance_next s h; cases h; exact .inr ⟨ha, _, _, .keyrWrKey2 s, rfl⟩
  | keyrWrOther d =>
    obtain ⟨ha, h⟩ := onInstance_next s h; cases h; exact .inr ⟨ha, _, _, .keyrWrOther s d, rfl⟩
  | srRd => obtain ⟨ha, h⟩ := onInstance_next s h; cases h; exact .inr ⟨ha, _, _, .srRd s, rfl⟩
  | crWr d => obtain ⟨ha, h⟩ := onInstance_next s h; cases h; exact .inr ⟨ha, _, _, .crWr s d, rfl⟩
  | crWrLock d =>
    obtain ⟨ha, h⟩ := onInstance_next s h; cases h; exact .inr ⟨ha, _, _, .crWrLock s d, rfl⟩
  | crWrStore d =>
    obtain ⟨ha, h⟩ := onInstance_next s h; cases h; exact .inr ⟨ha, _, _, .crWrStore s d, rfl⟩
  | crRd => obtain ⟨ha, h⟩ := onInstance_next s h; cases h; exact .inr ⟨ha, _, _, .crRd s, rfl⟩
  | unkRd a => obtain ⟨ha, h⟩ := onInstance_next s h; cases h; exact .inr ⟨ha, _, _, .unkRd s a, rfl⟩
  | unkWr a d =>
    obtain ⟨ha, h⟩ := onInstance_next s h; cases h; exact .inr ⟨ha, _, _, .unkWr s a d, rfl⟩
  | reset => obtain ⟨ha, h⟩ := onInstance_next s h; cases h; exact .inr ⟨ha, _, _, .reset s, rfl⟩
  | detach => obtain ⟨ha, h⟩ := onInstance_next s h; cases h; exact .inr ⟨ha, _, _, .detach s, rfl⟩

/-- All that `step` can answer as a next state. -/
theorem step_next_cases {s t : State} (h : step s = .next t) :
    (s.requests = [] ∧ t = s) ∨
    ∃ r rest i, s.requests = r :: rest ∧ decode r = .ok i ∧ exec i (s.takeRequest rest) = .next t := by
  unfold step at h
  split at h
  · cases h; exact .inl ⟨‹_›, rfl⟩
  · split at h
    · exact .inr ⟨_, _, _, ‹_›, ‹_›, h⟩
    · cases h

end Sys2Proof.Machine
end

