-- ==== Sys2Proof/Laws/Words.lean ====
section
/-! SUPPORT. Words and their bytes (20_memory.md rule R34), and the bits of composed words. -/

namespace Sys2Proof

@[simp] theorem ofBytes_byteOf (w : Word) :
    ofBytes (byteOf w 0) (byteOf w 1) (byteOf w 2) (byteOf w 3) = w := by
  unfold ofBytes byteOf
  apply BitVec.eq_of_getLsbD_eq
  intro i hi
  simp only [BitVec.getLsbD_append, BitVec.getLsbD_extractLsb']
  interval_cases i <;> simp

theorem byteOf_ofBytes (b0 b1 b2 b3 : Byte) :
    byteOf (ofBytes b0 b1 b2 b3) 0 = b0 ∧ byteOf (ofBytes b0 b1 b2 b3) 1 = b1 ∧
      byteOf (ofBytes b0 b1 b2 b3) 2 = b2 ∧ byteOf (ofBytes b0 b1 b2 b3) 3 = b3 := by
  unfold ofBytes byteOf
  refine ⟨?_, ?_, ?_, ?_⟩ <;>
  · apply BitVec.eq_of_getLsbD_eq
    intro i hi
    simp only [BitVec.getLsbD_append, BitVec.getLsbD_extractLsb']
    interval_cases i <;> simp

@[simp] theorem byteOf_ofBytes_zero (b0 b1 b2 b3 : Byte) : byteOf (ofBytes b0 b1 b2 b3) 0 = b0 :=
  (byteOf_ofBytes b0 b1 b2 b3).1
@[simp] theorem byteOf_ofBytes_one (b0 b1 b2 b3 : Byte) : byteOf (ofBytes b0 b1 b2 b3) 1 = b1 :=
  (byteOf_ofBytes b0 b1 b2 b3).2.1
@[simp] theorem byteOf_ofBytes_two (b0 b1 b2 b3 : Byte) : byteOf (ofBytes b0 b1 b2 b3) 2 = b2 :=
  (byteOf_ofBytes b0 b1 b2 b3).2.2.1
@[simp] theorem byteOf_ofBytes_three (b0 b1 b2 b3 : Byte) : byteOf (ofBytes b0 b1 b2 b3) 3 = b3 :=
  (byteOf_ofBytes b0 b1 b2 b3).2.2.2

/-- A request's bytes give back its parts. -/
theorem decode_encodeRaw (r : RawRequest) : decode (encodeRaw r) = decodeRaw r := by
  cases r
  simp [encodeRaw, wordBytes, decode]

end Sys2Proof
end

