-- ==== Sys2Proof/Laws/PerInstr.lean ====
section
/-! SUPPORT. Laws that hold of each instruction as syntax, one lemma per constructor. -/

namespace Sys2Proof.Laws

/-- `K & mask = match` (30_encoding.md rule R51) and the format: a well-formed instruction's request
is one that its row of opcode_table.json selects. -/
def RowMatch.Statement (i : Instr) : Prop :=
  i.wellFormed = true →
    keyOf i &&& (rowOf i).mask = (rowOf i).kmatch ∧
      (rawOf i).format = formatByte (rowOf i).format

/-- A key's masked parts. -/
theorem key_and (sel data m1 m0 : Word) :
    (sel ++ data : Key) &&& (m1 ++ m0 : Key) = (sel &&& m1) ++ (data &&& m0) := by
  apply BitVec.eq_of_getLsbD_eq
  intro i hi
  simp only [BitVec.getLsbD_and, BitVec.getLsbD_append]
  split <;> rfl

/-- A word masked by 0 is 0. -/
theorem word_and_zero (w : Word) : w &&& 0#32 = 0#32 := by simp

/-- A masked word is the mask's value where the masked bits are those of the value. -/
theorem word_and_eq (w m v : Word)
    (h : ∀ i, i < 32 → (w.getLsbD i && m.getLsbD i) = v.getLsbD i) : w &&& m = v := by
  apply BitVec.eq_of_getLsbD_eq
  intro i hi
  rw [BitVec.getLsbD_and]
  exact h i hi

/-- Rows that fix `sel` and leave `data` free. -/
theorem sel_row (sel data : Word) :
    (sel ++ data : Key) &&& 0xFFFFFFFF00000000#64 = sel ++ 0#32 := by
  have h := key_and sel data 0xFFFFFFFF#32 0#32
  rw [show (0xFFFFFFFF#32 ++ 0#32 : Key) = 0xFFFFFFFF00000000#64 by decide] at h
  rw [h, word_and_zero]
  congr 1
  exact BitVec.and_allOnes

/-- Rows that fix `sel` and some bits of `data`. -/
theorem sel_data_row (sel data m v : Word) (hm : data &&& m = v) :
    (sel ++ data : Key) &&& (0xFFFFFFFF#32 ++ m) = sel ++ v := by
  rw [key_and, hm]
  congr 1
  exact BitVec.and_allOnes

namespace RowMatch

theorem acrRd : Statement .acrRd := fun _ => by decide

theorem acrWr (data : Word) : Statement (.acrWr data) :=
  fun _ => ⟨sel_row Config.acrOffset data, rfl⟩

theorem keyrRd : Statement .keyrRd := fun _ => by decide

theorem keyrWr (data : Word) : Statement (.keyrWr data) :=
  fun _ => ⟨sel_row Config.keyrOffset data, rfl⟩

theorem keyrWrKey1 : Statement .keyrWrKey1 := fun _ => by decide

theorem keyrWrKey2 : Statement .keyrWrKey2 := fun _ => by decide

theorem keyrWrOther (data : Word) : Statement (.keyrWrOther data) :=
  fun _ => ⟨sel_row Config.keyrOffset data, rfl⟩

theorem srWr (data : Word) : Statement (.srWr data) :=
  fun _ => ⟨sel_row Config.srOffset data, rfl⟩

theorem srRd : Statement .srRd := fun _ => by decide

theorem crWr (data : Word) : Statement (.crWr data) :=
  fun _ => ⟨sel_row Config.crOffset data, rfl⟩

theorem crWrLock (data : Word) : Statement (.crWrLock data) := fun h =>
  ⟨sel_data_row Config.crOffset data 0x80000000#32 0x80000000#32
    (word_and_eq _ _ _ fun i hi => by
      simp only [Instr.wellFormed, Config.crLock] at h
      interval_cases i <;> simp_all), rfl⟩

theorem crWrStore (data : Word) : Statement (.crWrStore data) := fun h =>
  ⟨sel_data_row Config.crOffset data 0x80000000#32 0x00000000#32
    (word_and_eq _ _ _ fun i hi => by
      simp only [Instr.wellFormed, Config.crLock, Bool.not_eq_true'] at h
      interval_cases i <;> simp_all), rfl⟩

theorem crWrStrtLocked (data : Word) : Statement (.crWrStrtLocked data) := fun h =>
  ⟨sel_data_row Config.crOffset data 0x80010000#32 0x00010000#32
    (word_and_eq _ _ _ fun i hi => by
      simp only [Instr.wellFormed, Config.crLock, Config.crStrt, Bool.and_eq_true,
        Bool.not_eq_true'] at h
      interval_cases i <;> simp_all), rfl⟩

theorem crWrPer (data : Word) : Statement (.crWrPer data) := fun h =>
  ⟨sel_data_row Config.crOffset data 0x80010002#32 0x00010002#32
    (word_and_eq _ _ _ fun i hi => by
      simp only [Instr.wellFormed, Config.crLock, Config.crStrt, Config.crPer, Bool.and_eq_true,
        Bool.not_eq_true'] at h
      interval_cases i <;> simp_all), rfl⟩

theorem crWrMer1 (data : Word) : Statement (.crWrMer1 data) := fun h =>
  ⟨sel_data_row Config.crOffset data 0x80010004#32 0x00010004#32
    (word_and_eq _ _ _ fun i hi => by
      simp only [Instr.wellFormed, Config.crLock, Config.crStrt, Config.crMer1, Bool.and_eq_true,
        Bool.not_eq_true'] at h
      interval_cases i <;> simp_all), rfl⟩

theorem crWrMer2 (data : Word) : Statement (.crWrMer2 data) := fun h =>
  ⟨sel_data_row Config.crOffset data 0x80018000#32 0x00018000#32
    (word_and_eq _ _ _ fun i hi => by
      simp only [Instr.wellFormed, Config.crLock, Config.crStrt, Config.crMer2, Bool.and_eq_true,
        Bool.not_eq_true'] at h
      interval_cases i <;> simp_all), rfl⟩

theorem crRd : Statement .crRd := fun _ => by decide

theorem unkRd (roff : Word) : Statement (.unkRd roff) := fun _ => ⟨BitVec.and_zero, rfl⟩

theorem unkWr (roff data : Word) : Statement (.unkWr roff data) := fun _ => ⟨BitVec.and_zero, rfl⟩

/-- A 20-bit offset leaves the twelve bits that the flash rows test at 0. -/
theorem flash_row (off : FlashOffset) (data : Word) :
    (off.setWidth 32 ++ data : Key) &&& 0xFFF0000000000000#64 = 0#64 := by
  have h := key_and (off.setWidth 32) data 0xFFF00000#32 0#32
  rw [show (0xFFF00000#32 ++ 0#32 : Key) = 0xFFF0000000000000#64 by decide] at h
  rw [h, word_and_zero, word_and_eq (off.setWidth 32) 0xFFF00000#32 0#32]
  · decide
  · intro i hi
    interval_cases i <;> simp

theorem flashWr (off : FlashOffset) (data : Word) : Statement (.flashWr off data) :=
  fun _ => ⟨flash_row off data, rfl⟩

theorem flashRd (off : FlashOffset) (n : Width) : Statement (.flashRd off n) :=
  fun _ => ⟨flash_row off 0#32, rfl⟩

theorem attach (m : MediumArg) : Statement (.attach m) := by
  intro _
  cases m with
  | same => exact ⟨by decide, rfl⟩
  | absent => exact ⟨by decide, rfl⟩
  | image writable size cells => exact ⟨sel_row 0#32 0#32, rfl⟩

theorem reset : Statement .reset := fun _ => by decide

theorem detach : Statement .detach := fun _ => by decide

end RowMatch

end Sys2Proof.Laws
end

