-- ==== Sys2Proof/Laws/Pseudo.lean ====
section
/-! SUPPORT. What the written forms and the sequences of 30_encoding.md rule R62 do, said once. -/

namespace Sys2Proof.Machine

@[simp] theorem execAll_nil (s : State) : execAll [] s = .next s := rfl

/-- An operation that answers a next state hands it to the rest of the sequence. -/
theorem execAll_cons_next {i : Instr} {s t : State} (rest : List Instr)
    (h : exec i s = .next t) : execAll (i :: rest) s = execAll rest t := by
  simp only [execAll, h]

@[simp] theorem performAll_nil (s : State) : performAll [] s = .next s := rfl

@[simp] theorem performAll_cons_error (why : DecodeError) (rest : List (Except DecodeError Instr))
    (s : State) : performAll (.error why :: rest) s = .refused (.undecodable why) := rfl

/-- An operation that answers a next state hands it to the rest of the written sequence. -/
theorem performAll_cons_next {i : Instr} {s t : State} (rest : List (Except DecodeError Instr))
    (h : exec i s = .next t) : performAll (.ok i :: rest) s = performAll rest t := by
  simp only [performAll, h]

/-- A written sequence that names an operation at every place is that sequence of operations. -/
theorem performAll_ok (is : List Instr) (s : State) : performAll (is.map .ok) s = execAll is s := by
  induction is generalizing s with
  | nil => rfl
  | cons i is ih =>
    simp only [List.map_cons, performAll, execAll]
    split <;> simp_all

/-- The address of a flash offset has that offset. -/
@[simp] theorem flashOffsetOf_add (off : FlashOffset) :
    flashOffsetOf (0x08000000 + off.toNat) = some off := by
  have := off.isLt
  simp only [flashOffsetOf, Config.flashBase, Config.flashSize]
  rw [if_pos (by omega), Nat.add_sub_cancel_left, BitVec.ofNat_toNat, BitVec.setWidth_eq]

/-- An address outside the space has no offset (20_memory.md rule R39). -/
theorem flashOffsetOf_outside (address : Nat)
    (h : address < 0x08000000 ∨ 0x08100000 ≤ address) : flashOffsetOf address = none := by
  simp only [flashOffsetOf, Config.flashBase, Config.flashSize]
  rw [if_neg (by omega)]

/-- `st.w` at the address of a flash offset is the store at that offset. -/
@[simp] theorem storeAt_add (off : FlashOffset) (v : Word) :
    storeAt (0x08000000 + off.toNat) v = .ok (.flashWr off v) := by
  simp [storeAt]

/-- `st.w` outside the space names no operation. -/
theorem storeAt_outside (address : Nat) (v : Word)
    (h : address < 0x08000000 ∨ 0x08100000 ≤ address) :
    storeAt address v = .error .flashOffsetOutOfRange := by
  simp [storeAt, flashOffsetOf_outside address h]

end Sys2Proof.Machine
end

