-- ==== Sys2Proof/Tests/Slice0.lean ====
section
/-! SUPPORT. Tests. A vector's letter and number name its row of 95_test_vectors.md; what a test
expects is that row's, not the model's own answer. -/

namespace Sys2Proof.Machine

/-! ### Helpers -/

/-- An attached instance whose banks and medium both hold this content. -/
def instanceOf (cr sr : Word) (stage : Stage) (tracker : Option FlashOffset) (swap : Bool)
    (content : Memory) : State :=
  { State.reset with
    cr := cr, sr := sr, stage := stage, tracker := tracker, swap := swap,
    banks := content, medium := content }

/-- The next state of a result that has one. -/
def after : Result → State
  | .next t => t
  | .fault _ => State.reset
  | .refused _ => State.reset

/-- `CR`, `SR`, `stage` and the tracker of a next state. -/
def registers : Result → Option (Word × Word × Stage × Option FlashOffset)
  | .next t => some (t.cr, t.sr, t.stage, t.tracker)
  | .fault _ => none
  | .refused _ => none

/-- The bytes of bank and medium at these places of a next state. -/
def bytesAt (r : Result) (places : List Nat) : Option (List Byte × List Byte) :=
  match r with
  | .next t => some (places.map t.banks.read, places.map t.medium.read)
  | .fault _ => none
  | .refused _ => none

/-- The field out of a next state. -/
def fieldOut : Result → Option Word
  | .next t => t.response
  | .fault _ => none
  | .refused _ => none

/-- A result is a next state. -/
def isNext : Result → Bool
  | .next _ => true
  | .fault _ => false
  | .refused _ => false

theorem eq_next_after {r : Result} (h : isNext r = true) : r = .next (after r) := by
  cases r with
  | next t => rfl
  | fault f => cases h
  | refused f => cases h

/-- A result's refusal. -/
def refusalOf : Result → Option Refusal
  | .next _ => none
  | .fault _ => none
  | .refused r => some r

/-- A decoded instruction. -/
def decoded (bs : List Byte) : Option Instr :=
  match decode bs with
  | .ok i => some i
  | .error _ => none

/-- Why a request is refused. -/
def decodeError (bs : List Byte) : Option DecodeError :=
  match decode bs with
  | .ok _ => none
  | .error e => some e

/-- Unlocked, no flag set, idle, blank. -/
def unlocked : State := instanceOf 0x00000000#32 0x00000000#32 .zero none false []

/-- PG mode of section 5. -/
def pgMode : State := instanceOf 0x00000001#32 0x00000000#32 .zero none false []

/-- Before the second word of a pair. -/
def midPair : State := instanceOf 0x00000001#32 0x00010000#32 .zero (some 0x00000#20) false
  [(0, 0xEF#8), (1, 0xBE#8), (2, 0xAD#8), (3, 0xDE#8)]

/-- No instance, a blank medium. -/
def detached : State := { State.reset with attached := false }

/-- The medium of vector C6, but for the bytes that vector leaves aside. -/
def mediumC6 : Memory :=
  [(0, 0x11#8), (0x1800, 0x00#8), (0x80000, 0x22#8), (0x80007, 0x22#8), (0xFF800, 0x33#8)]

/-- Unlocked, one byte programmed, the medium about to fail a write. -/
def worn : State := { unlocked with banks := [(0, 0#8)], mediumReplies := [.failed] }

/-- After `KEY1`. -/
def stageOne : State := { State.reset with stage := .one }

/-! ### Ill-formed instructions, one for each check of `Instr.wellFormed` -/

theorem test_illFormed_keyrWrOther_key1 :
    (Instr.keyrWrOther 0x45670123#32).wellFormed = false := by decide
theorem test_illFormed_keyrWrOther_key2 :
    (Instr.keyrWrOther 0xCDEF89AB#32).wellFormed = false := by decide
theorem test_illFormed_crWrLock : (Instr.crWrLock 0x7FFFFFFF#32).wellFormed = false := by decide
theorem test_illFormed_crWrStore : (Instr.crWrStore 0x80000000#32).wellFormed = false := by decide
theorem test_illFormed_crWrStrtLocked_lock :
    (Instr.crWrStrtLocked 0xFFFFFFFF#32).wellFormed = false := by decide
theorem test_illFormed_crWrStrtLocked_noStart :
    (Instr.crWrStrtLocked 0x7FFEFFFF#32).wellFormed = false := by decide
theorem test_illFormed_crWrPer_lock :
    (Instr.crWrPer 0xFFFFFFFF#32).wellFormed = false := by decide
theorem test_illFormed_crWrPer_noStart :
    (Instr.crWrPer 0x7FFEFFFF#32).wellFormed = false := by decide
theorem test_illFormed_crWrPer_noRequest :
    (Instr.crWrPer 0x7FFFFFFD#32).wellFormed = false := by decide
theorem test_illFormed_crWrMer1_lock :
    (Instr.crWrMer1 0xFFFFFFFF#32).wellFormed = false := by decide
theorem test_illFormed_crWrMer1_noStart :
    (Instr.crWrMer1 0x7FFEFFFF#32).wellFormed = false := by decide
theorem test_illFormed_crWrMer1_noRequest :
    (Instr.crWrMer1 0x7FFFFFFB#32).wellFormed = false := by decide
theorem test_illFormed_crWrMer2_lock :
    (Instr.crWrMer2 0xFFFFFFFF#32).wellFormed = false := by decide
theorem test_illFormed_crWrMer2_noStart :
    (Instr.crWrMer2 0x7FFEFFFF#32).wellFormed = false := by decide
theorem test_illFormed_crWrMer2_noRequest :
    (Instr.crWrMer2 0x7FFF7FFF#32).wellFormed = false := by decide
theorem test_illFormed_unkRd_misaligned : (Instr.unkRd 0x05#32).wellFormed = false := by decide
theorem test_illFormed_unkRd_named :
    [0x00#32, 0x08#32, 0x10#32, 0x14#32].all (fun a => !(Instr.unkRd a).wellFormed) = true := by
  decide
theorem test_illFormed_unkWr_misaligned : (Instr.unkWr 0x06#32 0#32).wellFormed = false := by decide
theorem test_illFormed_unkWr_named :
    [0x00#32, 0x08#32, 0x10#32, 0x14#32].all (fun a => !(Instr.unkWr a 0#32).wellFormed) = true := by
  decide
theorem test_illFormed_flashRd : (Instr.flashRd 0xFFFFD#20 .word).wellFormed = false := by decide
theorem test_illFormed_image_size :
    (Instr.attach (.image true 0x100000000 [])).wellFormed = false := by decide
theorem test_illFormed_image_order :
    (Instr.attach (.image true 0x100000 [(1, 0#8), (0, 0#8)])).wellFormed = false := by decide
theorem test_illFormed_image_erased :
    (Instr.attach (.image true 0x100000 [(1, 0xFF#8)])).wellFormed = false := by decide
theorem test_illFormed_image_beyond :
    (Instr.attach (.image true 0x100000 [(0x100000, 0#8)])).wellFormed = false := by decide
theorem test_illFormed_image_address :
    (Instr.attach (.image true 0x2000000 [(0x1000000, 0#8)])).wellFormed = false := by decide

/-! ### Decoding: the match of every row with operand bits put in, the format (and for a
sub-operation its line) above bit 63 (log 2) -/

theorem test_decode_acrRd :
    decodeTableWord 72 0x010000000000000000 = some (.acrRd) := by decide
theorem test_decode_acrWr :
    decodeTableWord 64 0x0000000000000704 = some (.acrWr 0x00000704#32) := by decide
theorem test_decode_keyrRd :
    decodeTableWord 72 0x010000000800000000 = some (.keyrRd) := by decide
theorem test_decode_keyrWr :
    decodeTableWord 64 0x0000000812345678 = some (.keyrWr 0x12345678#32) := by decide
theorem test_decode_keyrWrKey1 :
    decodeTableWord 80 0x01000000000845670123 = some (.keyrWrKey1) := by decide
theorem test_decode_keyrWrKey2 :
    decodeTableWord 80 0x020000000008CDEF89AB = some (.keyrWrKey2) := by decide
theorem test_decode_keyrWrOther :
    decodeTableWord 80 0x03000000000812345678 = some (.keyrWrOther 0x12345678#32) := by decide
theorem test_decode_srWr :
    decodeTableWord 64 0x0000001000010009 = some (.srWr 0x00010009#32) := by decide
theorem test_decode_srRd :
    decodeTableWord 72 0x010000001000000000 = some (.srRd) := by decide
theorem test_decode_crWr :
    decodeTableWord 64 0x000000140001001A = some (.crWr 0x0001001A#32) := by decide
theorem test_decode_crWrLock :
    decodeTableWord 80 0x01000000001480000001 = some (.crWrLock 0x80000001#32) := by decide
theorem test_decode_crWrStore :
    decodeTableWord 80 0x0200000000140000001A = some (.crWrStore 0x0000001A#32) := by decide
theorem test_decode_crWrStrtLocked :
    decodeTableWord 80 0x03000000001400010000 = some (.crWrStrtLocked 0x00010000#32) := by decide
theorem test_decode_crWrPer :
    decodeTableWord 80 0x04000000001400010FFA = some (.crWrPer 0x00010FFA#32) := by decide
theorem test_decode_crWrMer1 :
    decodeTableWord 80 0x05000000001400010004 = some (.crWrMer1 0x00010004#32) := by decide
theorem test_decode_crWrMer2 :
    decodeTableWord 80 0x06000000001400018000 = some (.crWrMer2 0x00018000#32) := by decide
theorem test_decode_crRd :
    decodeTableWord 72 0x010000001400000000 = some (.crRd) := by decide
theorem test_decode_unkRd :
    decodeTableWord 72 0x010000040000000000 = some (.unkRd 0x00000400#32) := by decide
theorem test_decode_unkWr :
    decodeTableWord 64 0x0000000CFFFFFFFF = some (.unkWr 0x0000000C#32 0xFFFFFFFF#32) := by decide
theorem test_decode_flashWr :
    decodeTableWord 72 0x020007FFFCC0FFEE00 = some (.flashWr 0x7FFFC#20 0xC0FFEE00#32) := by decide
theorem test_decode_flashRd :
    decodeTableWord 72 0x030007FFFE00000000 = some (.flashRd 0x7FFFE#20 .word) := by decide
theorem test_decode_attach :
    decodeTableWord 72 0x040000000000000000 = some (.attach .same) := by decide
theorem test_decode_reset :
    decodeTableWord 72 0x040000000100000000 = some (.reset) := by decide
theorem test_decode_detach :
    decodeTableWord 72 0x040000000200000000 = some (.detach) := by decide
theorem test_decode_flashRd_byte :
    decodeTableWord 88 0x0100030000000300000000 = some (.flashRd 0x00003#20 .byte) := by decide
theorem test_decode_flashRd_half :
    decodeTableWord 88 0x0200030000000300000000 = some (.flashRd 0x00003#20 .half) := by decide
theorem test_decode_attach_absent :
    decodeTableWord 88 0x0100040000000000000000 = some (.attach .absent) := by decide
theorem test_decode_attach_image :
    decoded [0, 0, 0, 0, 0, 0, 0, 0, 4, 0, 2, 1, 0, 0, 16, 0, 2, 1, 8, 0x5A] =
      some (.attach (.image false 0x100000 [(0x80102, 0x5A#8)])) := by decide

/-! ### Operand assembly (30_encoding.md rules R53, R57, R62) -/

/-- Vector G13's addresses: the first offset of logical bank 1, and the space's last word; the
addresses just outside the space have no offset (rule R39). -/
theorem test_flashOffsetOf :
    [0x08080000, 0x080FFFFC, 0x07FFFFFF, 0x08100000].map flashOffsetOf =
      [some 0x80000#20, some 0xFFFFC#20, none, none] := by decide
/-- Section 3, the encodings of `CR_PER(b, p)`. -/
theorem test_crPerWord : [crPerWord 0 3, crPerWord 0 255, crPerWord 1 0, crPerWord 1 255] =
    [0x0001001A#32, 0x000107FA#32, 0x00010802#32, 0x00010FFA#32] := by decide
/-- Vectors K2 and C12: `UNLOCK`, then `ERASE_PAGE 1, 0`. -/
theorem test_pseudo : registers (execAll (pseudoUnlock ++ pseudoErasePage 1 0) State.reset) =
    some (0x00010802#32, 0x00000001#32, .zero, none) := by decide
/-- Source example S4 as `PROGRAM_DW` from PG mode. -/
theorem test_programDw :
    registers (performAll (pseudoProgramDw 0x08000000 0xDEADBEEF#32 0x12345678#32) pgMode) =
      some (0x00000001#32, 0x00000001#32, .zero, none) := by decide
/-- 20_memory.md rule R45 and U19: after the last word of the space there is no second store, and
offset 0 is never stored to. -/
theorem test_programDw_lastWord :
    refusalOf (performAll (pseudoProgramDw 0x080FFFFC 1#32 2#32) pgMode) =
      some (.undecodable .flashOffsetOutOfRange) := by decide
/-- Vector L8's address, and the one after it. -/
theorem test_loadAt : loadAt 0x080FFFFC .word = .ok (.flashRd 0xFFFFC#20 .word) ∧
    loadAt 0x080FFFFD .word = .error .flashReadPastEnd := by decide

/-! ### Requests the decoder refuses, by name -/

theorem test_refuse_short :
    decodeError [0, 0, 0, 0, 0, 0, 0, 0, 0, 0, 0, 0, 0, 0, 0] = some .requestTooShort := by decide
theorem test_refuse_format :
    decodeError [0, 0, 0, 0, 0, 0, 0, 0, 5, 0, 0, 0, 0, 0, 0, 0] = some .unknownFormat := by decide
theorem test_refuse_event :
    decodeError [0, 0, 0, 0, 3, 0, 0, 0, 4, 0, 0, 0, 0, 0, 0, 0] = some .unknownEvent := by decide
theorem test_refuse_reserved :
    decodeError [0, 0, 0, 0, 0, 0, 0, 0, 0, 0, 0, 1, 0, 0, 0, 0] = some .reservedBitsSet := by decide
theorem test_refuse_trailing :
    decodeError [0, 0, 0, 0, 0, 0, 0, 0, 1, 0, 0, 0, 0, 0, 0, 0, 0] = some .reservedBitsSet := by decide
theorem test_refuse_width :
    decodeError [0, 0, 0, 0, 0, 0, 0, 0, 3, 0, 3, 0, 0, 0, 0, 0] = some .badWidth := by decide
theorem test_refuse_narrowRegister :
    decodeError [0, 0, 0, 0, 20, 0, 0, 0, 0, 0, 2, 0, 0, 0, 0, 0] = some .narrowRegisterAccess := by decide
theorem test_refuse_misalignedRegister :
    decodeError [0, 0, 0, 0, 21, 0, 0, 0, 1, 0, 0, 0, 0, 0, 0, 0] = some .misalignedRegisterAccess := by decide
theorem test_refuse_narrowStore :
    decodeError [0, 0, 0, 0, 0, 0, 0, 0, 2, 0, 1, 0, 0, 0, 0, 0] = some .narrowFlashStore := by decide
theorem test_refuse_storeBeyondSpace :
    decodeError [0, 0, 0, 0, 0, 0, 16, 0, 2, 0, 0, 0, 0, 0, 0, 0] = some .flashOffsetOutOfRange := by decide
theorem test_refuse_readBeyondSpace :
    decodeError [0, 0, 0, 0, 255, 255, 15, 0, 3, 0, 2, 0, 0, 0, 0, 0] = some .flashReadPastEnd := by decide
theorem test_refuse_subOperation :
    decodeError [0, 0, 1, 0, 20, 0, 0, 0, 0, 4, 0, 0, 0, 0, 0, 0] = some .noSuchSubOperation := by decide
theorem test_refuse_keyMismatch :
    decodeError [35, 1, 103, 69, 8, 0, 0, 0, 0, 2, 0, 0, 0, 0, 0, 0] = some .noSuchSubOperation := by decide
theorem test_refuse_medium :
    decodeError [0, 0, 0, 0, 0, 0, 0, 0, 4, 0, 2, 0, 0, 0, 16, 0, 0, 0, 0] = some .badMediumOperand := by decide

/-! ### The placeholders, SR and the reads (sections 1, 4 and 7) -/

/-- Vector T10. -/
theorem test_acrRd : fieldOut (exec .acrRd midPair) = some 0x00000000#32 := by decide
/-- Vector T11. -/
theorem test_acrWr : exec (.acrWr 0x00000704#32) midPair = .next midPair := rfl
/-- Section 2: "`rd KEYR -> 0x00000000` in every state". -/
theorem test_keyrRd : fieldOut (exec .keyrRd midPair) = some 0x00000000#32 := by decide
/-- Vector T12. -/
theorem test_unkRd : fieldOut (exec (.unkRd 0x18#32) midPair) = some 0x00000000#32 := by decide
/-- Vector T13. -/
theorem test_unkWr : exec (.unkWr 0x0C#32 0xFFFFFFFF#32) midPair = .next midPair := rfl
/-- Vector T9. -/
theorem test_srRd : exec .srRd midPair =
    .next { midPair with response := some 0x00010000#32 } := rfl
/-- Program P5, step 4. -/
theorem test_crRd : fieldOut (exec .crRd (instanceOf 0x0001001A#32 1#32 .zero none false [])) =
    some 0x0001001A#32 := by decide
/-- Vector T3. -/
theorem test_srWr_start : registers (exec (.srWr 0x00010000#32)
    (instanceOf 0x00010004#32 0x00000001#32 .zero none false [])) =
    some (0x00000004#32, 0x00000001#32, .zero, none) := by decide
/-- Vector T5. -/
theorem test_srWr_locked : registers (exec (.srWr 0xFFFFFFFF#32)
    (instanceOf 0x80010005#32 0x00010009#32 .zero (some 0x00000#20) false [])) =
    some (0x80000005#32, 0x00000000#32, .zero, some 0x00000#20) := by decide

/-! ### The keys (section 2) -/

/-- Vector K10. -/
theorem test_key1 : registers (exec (.keyrWr 0x45670123#32) State.reset) =
    some (0x80000000#32, 0x00000000#32, .one, none) := by decide
/-- Vector K1, its second write. -/
theorem test_key1_again : registers (exec .keyrWrKey1 stageOne) =
    some (0x80000000#32, 0x00000000#32, .zero, none) := by decide
/-- Vector K19, its last write. -/
theorem test_key2_keepsPg : registers (exec (.keyrWr 0xCDEF89AB#32)
    (instanceOf 0x80000001#32 0#32 .one none false [])) =
    some (0x00000001#32, 0x00000000#32, .zero, none) := by decide
/-- Vector K11. -/
theorem test_key2_early : registers (exec .keyrWrKey2 State.reset) =
    some (0x80000000#32, 0x00000000#32, .zero, none) := by decide
/-- Vector K3, its second write. -/
theorem test_keyOther : registers (exec (.keyrWrOther 0x12345678#32) stageOne) =
    some (0x80000000#32, 0x00000000#32, .zero, none) := by decide

/-! ### CR (section 3) -/

/-- Vector C1. -/
theorem test_crWr_lock : registers (exec (.crWr 0xFFFFFFFF#32)
    (instanceOf 0x00000001#32 0#32 .one none false [])) =
    some (0x80000001#32, 0x00000000#32, .zero, none) := by decide
/-- Vectors C8, C8b: the lock write keeps `PG`, `BSY` and the tracker. -/
theorem test_crWrLock : registers (exec (.crWrLock 0x80000000#32) midPair) =
    some (0x80000001#32, 0x00010000#32, .zero, some 0x00000#20) := by decide
/-- Vector C10. -/
theorem test_crWrStore : registers (exec (.crWrStore 0x00000002#32) State.reset) =
    some (0x80000002#32, 0x00000000#32, .zero, none) := by decide
/-- Vector C2. -/
theorem test_crWr_startLocked : registers (exec (.crWr 0x0001001A#32) State.reset) =
    some (0x8001001A#32, 0x00000008#32, .zero, none) := by decide
/-- Vector C8b: V1 keeps `BSY` and the tracker. -/
theorem test_crWrStrtLocked : registers (exec (.crWrStrtLocked 0x00010004#32)
    (instanceOf 0x80010004#32 0x00010000#32 .zero (some 0x00000#20) false [])) =
    some (0x80010004#32, 0x00010008#32, .zero, some 0x00000#20) := by decide
/-- Vector C11: page 255 of bank 1, and the other listed bytes as they were. -/
theorem test_crWrPer : bytesAt (exec (.crWrPer 0x00010FFA#32)
    (instanceOf 0x00010FFA#32 0#32 .zero none false mediumC6)) [0, 0x80000, 0xFF800] =
    some ([0x11#8, 0x22#8, 0xFF#8], [0x11#8, 0x22#8, 0xFF#8]) := by decide
/-- Vector E5: page 3 of logical bank 0 is in physical bank 1 where `swap` = 1. -/
theorem test_crWrPer_swap : bytesAt (exec (.crWrPer 0x0001001A#32)
    (instanceOf 0x0001001A#32 0#32 .zero none true
      [(0x1800, 0#8), (0x817FF, 0#8), (0x81800, 0#8), (0x81FFF, 0#8), (0x82000, 0#8)]))
    [0x1800, 0x817FF, 0x81800, 0x81FFF, 0x82000] =
    some ([0#8, 0#8, 0xFF#8, 0xFF#8, 0#8], [0#8, 0#8, 0xFF#8, 0xFF#8, 0#8]) := by decide
/-- Vector C13, its second erase: bank 0 erased, bank 1 untouched. -/
theorem test_crWrMer1 : bytesAt (exec (.crWrMer1 0x00010006#32)
    (instanceOf 0x00010006#32 0#32 .zero none false mediumC6)) [0, 0x1800, 0x80000] =
    some ([0xFF#8, 0xFF#8, 0x22#8], [0xFF#8, 0xFF#8, 0x22#8]) := by decide
/-- Vector E7: where `swap` = 1 logical bank 1 is physical bank 0. -/
theorem test_crWrMer2_swap : bytesAt (exec (.crWrMer2 0x00018000#32)
    (instanceOf 0x00018000#32 0#32 .zero none true [(0, 0#8), (0x7FFFF, 0#8), (0x80000, 8#8)]))
    [0, 0x7FFFF, 0x80000] =
    some ([0xFF#8, 0xFF#8, 8#8], [0xFF#8, 0xFF#8, 8#8]) := by decide

/-! ### The flash space (sections 1, 5 and 7) -/

/-- Source example S4, first store: the word, its bytes and its flags. -/
theorem test_flashWr_first :
    registers (exec (.flashWr 0x00000#20 0xDEADBEEF#32) pgMode) =
      some (0x00000001#32, 0x00010000#32, .zero, some 0x00000#20) ∧
    bytesAt (exec (.flashWr 0x00000#20 0xDEADBEEF#32) pgMode) [0, 1, 2, 3] =
      some ([0xEF#8, 0xBE#8, 0xAD#8, 0xDE#8], [0xEF#8, 0xBE#8, 0xAD#8, 0xDE#8]) := by decide
/-- Vector G14, second store: across the bank boundary where `swap` = 1. -/
theorem test_flashWr_second_swap :
    registers (exec (.flashWr 0x80000#20 0x0BADF00D#32)
      (instanceOf 1#32 0x00010000#32 .zero (some 0x7FFFC#20) true [])) =
      some (0x00000001#32, 0x00000001#32, .zero, none) ∧
    bytesAt (exec (.flashWr 0x80000#20 0x0BADF00D#32)
      (instanceOf 1#32 0x00010000#32 .zero (some 0x7FFFC#20) true [])) [0, 1, 2, 3] =
      some ([0x0D#8, 0xF0#8, 0xAD#8, 0x0B#8], [0x0D#8, 0xF0#8, 0xAD#8, 0x0B#8]) := by decide
/-- Vector L7: two bytes of logical bank 0, two of logical bank 1. -/
theorem test_flashRd_word : fieldOut (exec (.flashRd 0x7FFFE#20 .word)
    (instanceOf 0x80000000#32 0#32 .zero none false
      [(0x7FFFC, 0xA0#8), (0x7FFFD, 0xA1#8), (0x7FFFE, 0xA2#8), (0x7FFFF, 0xA3#8),
        (0x80001, 0xB1#8), (0x80002, 0xB2#8), (0x80003, 0xB3#8)])) =
    some 0xB1FFA3A2#32 := by decide
/-- Vector L5: bytes of two cells. -/
theorem test_flashRd_half : fieldOut (exec (.flashRd 0x00003#20 .half)
    (instanceOf 0x80000000#32 0#32 .zero none false [(3, 0xDE#8), (4, 0x78#8)])) =
    some 0x000078DE#32 := by decide

/-! ### The six causes of a ProtocolViolation (V1 above), and a failed medium write -/

/-- Vector G22 (V2), G1 (V3), G16 (V4), G6 (V5). -/
theorem test_violations_2_to_5 :
    [exec (.flashWr 0x00004#20 2#32) (after (exec (.crWr 0x80000000#32) midPair)),
      exec (.flashWr 0x00002#20 1#32) pgMode,
      exec (.flashWr 0x00004#20 2#32) (after (exec (.crWr 0#32) midPair)),
      exec (.flashWr 0x00008#20 2#32) midPair].map registers =
    [some (0x80000001#32, 0x00000008#32, .zero, none),
      some (0x00000001#32, 0x00000008#32, .zero, none),
      some (0x00000000#32, 0x00000008#32, .zero, none),
      some (0x00000001#32, 0x00000008#32, .zero, none)] := by decide
/-- Vector G10 (V6): the second word of a pair on a cell that is not erased. -/
theorem test_violation_6 : registers (exec (.flashWr 0x00004#20 0xB#32)
    (instanceOf 1#32 0x00010000#32 .zero (some 0x00000#20) false [(4, 0xFE#8)])) =
    some (0x00000001#32, 0x00000008#32, .zero, none) := by decide
/-- Vector G15: after the last word of the space every store fails check 4. -/
theorem test_noWordAfterTheLast : registers (exec (.flashWr 0x00000#20 1#32)
    (instanceOf 1#32 0x00010000#32 .zero (some 0xFFFFC#20) false [])) =
    some (0x00000001#32, 0x00000008#32, .zero, none) := by decide
/-- 60_exceptions.md rule R154: the bank is written and the operation completes although the
medium write fails; the medium outside the range keeps its bytes. -/
theorem test_failedMediumWrite :
    (after (exec (.crWr 0x00010002#32) worn)).banks = [] ∧
    (after (exec (.crWr 0x00010002#32) worn)).mediumReplies = [] ∧
    registers (exec (.crWr 0x00010002#32) worn) =
      some (0x00010002#32, 0x00000001#32, .zero, none) := by decide

/-! ### The events (section 7) -/

/-- Vector B2, the lower end of the boot range. -/
theorem test_attach_swaps : (after (exec (.attach (.image true 0x100000
    [(0, 0x11#8), (0x80000, 0x08#8), (0x80001, 0#8), (0x80002, 0#8), (0x80003, 0#8)]))
    detached)).swap = true := by decide
/-- Vector B4, beyond the upper end. -/
theorem test_attach_keeps : (after (exec (.attach (.image true 0x100000
    [(0, 0x11#8), (0x80000, 0x08#8), (0x80001, 0x08#8), (0x80002, 0#8), (0x80003, 0#8)]))
    detached)).swap = false := by decide
/-- Vector X1. -/
theorem test_reset : exec .reset (instanceOf 0x0001001B#32 0x00010009#32 .one
    (some 0x01800#20) true mediumC6) =
    .next (instanceOf 0x80000000#32 0x00000000#32 .zero none true mediumC6) := rfl
/-- Program P4, step 18: the medium stays, the instance ends. -/
theorem test_detach : (after (exec .detach (instanceOf 0x80000000#32 0#32 .zero none true
    mediumC6))).attached = false ∧ (after (exec .detach (instanceOf 0x80000000#32 0#32 .zero none
    true mediumC6))).medium = mediumC6 := by decide

/-! ### The step -/

/-- From reset, the word of a row placed as the next request is what the next step performs. -/
theorem test_step_runsThePlacedWord :
    registers (step (State.reset.withFetchWord 64 0x0000000845670123)) =
      some (0x80000000#32, 0x00000000#32, .one, none) ∧
    (after (step (State.reset.withFetchWord 64 0x0000000845670123))).requests = [] := by decide
theorem test_step_idle : step State.reset = .next State.reset := rfl
theorem test_step_refuses :
    refusalOf (step { State.reset with requests := [[]] }) =
      some (.undecodable .requestTooShort) := by decide
/-- U20 and U22 of 93_implementation_defined.md. -/
theorem test_existence : refusalOf (exec .srRd detached) = some .noInstance ∧
    refusalOf (exec (.attach .same) State.reset) = some .alreadyAttached := by decide

/-! ### Witnesses: for every statement with hypotheses, values that meet them together -/

theorem test_witness_DecodeInvertsEncode :
    (Instr.flashRd 0xFFFFC#20 .word).wellFormed = true ∧
      (Instr.attach (.image false 0xFFFFFFFF [(0xFFFFFF, 0#8)])).wellFormed = true := by decide
theorem test_witness_DecodedInstructionsAreWellFormed :
    decode (tableBytes 80 0x06000000001400018000) = .ok (.crWrMer2 0x00018000#32) := by decide
theorem test_witness_StepPerformsTheDecodedRequest :
    (State.reset.withFetchWord 72 0x010000001400000000).requests =
        [tableBytes 72 0x010000001400000000] ∧
      decode (tableBytes 72 0x010000001400000000) = .ok .crRd ∧
      decode (tableBytes 72 0x010000001500000000) = .error .misalignedRegisterAccess ∧
      State.reset.requests = [] := by decide
theorem test_witness_AcrReadReturnsZero :
    midPair.attached = true := by decide
theorem test_witness_ControlReadsAsStored :
    midPair.attached = true ∧ midPair.cr = 0x00000001#32 := by decide
theorem test_witness_StatusReadsAsStored :
    midPair.attached = true ∧ midPair.sr = 0x00010000#32 := by decide
theorem test_witness_KeyrAndUnknownReadZero :
    midPair.attached = true ∧ (Instr.unkRd 0x0C#32).wellFormed = true ∧
      (Instr.unkRd 0xFFFFFFFC#32).wellFormed = true := by decide
theorem test_witness_AcrAndUnknownWritesChangeNothing :
    midPair.attached = true ∧ (Instr.unkWr 0x18#32 0xFFFFFFFF#32).wellFormed = true := by decide
theorem test_witness_ReadFormatsChangeNothing :
    (rowOf .srRd).format = .regRd ∧ exec .srRd midPair = .next (after (exec .srRd midPair)) ∧
      (rowOf (.flashRd 0xFFFFF#20 .byte)).format = .memRd ∧
      exec (.flashRd 0xFFFFF#20 .byte) midPair =
        .next (after (exec (.flashRd 0xFFFFF#20 .byte) midPair)) :=
  ⟨rfl, eq_next_after (by decide), rfl, eq_next_after (by decide)⟩
theorem test_witness_StatusWriteClearsWrittenBits :
    midPair.attached = true ∧ midPair.sr.getLsbD 16 = true := by decide
theorem test_witness_FirstKeyMovesTheStage :
    State.reset.attached = true ∧ State.reset.stage = .zero ∧
      stageOne.attached = true ∧
      stageOne.stage = .one := by decide
theorem test_witness_SecondKeyUnlocks :
    stageOne.attached = true ∧
      stageOne.stage = .one ∧
      State.reset.attached = true ∧ State.reset.stage = .zero := by decide
theorem test_witness_OtherKeyResetsTheStage :
    State.reset.attached = true ∧ 0x45670122#32 ≠ 0x45670123#32 ∧
      0x45670122#32 ≠ 0xCDEF89AB#32 := by decide
theorem test_witness_OnlyTheKeyPairUnlocks :
    State.reset.attached = true ∧ State.reset.locked = true ∧ State.reset.stage = .zero := by decide
theorem test_witness_LockWriteOnlyLocks :
    midPair.attached = true ∧ (0x80000000#32).getLsbD 31 = true ∧
      (0xFFFFFFFF#32).getLsbD 31 = true := by decide
theorem test_witness_StoreKeepsTheLockBit :
    State.reset.attached = true ∧ (0x7FFEFFFF#32).getLsbD 31 = false ∧
      (0x7FFEFFFF#32).getLsbD 16 = false := by decide
theorem test_witness_StoreKeepsTheLockBit_noRequest :
    unlocked.attached = true ∧ (0x7FFF7FF9#32).getLsbD 31 = false ∧
      unlocked.cr.getLsbD 31 = false ∧ (0x7FFF7FF9#32).getLsbD 1 = false ∧
      (0x7FFF7FF9#32).getLsbD 2 = false ∧ (0x7FFF7FF9#32).getLsbD 15 = false := by decide
theorem test_witness_StartWhileLockedIsRefused :
    State.reset.attached = true ∧ unlocked.attached = true ∧
      (0x00010000#32).getLsbD 31 = false ∧ (0x00010000#32).getLsbD 16 = true ∧
      State.reset.cr.getLsbD 31 = true ∧ unlocked.cr.getLsbD 31 = false := by decide
theorem test_witness_WritesPerformTheirSubOperations :
    midPair.attached = true ∧ crSubOperations midPair.locked 0x00018006#32 =
      [.crWrStore 0x00018006#32, .crWrPer 0x00018006#32, .crWrMer1 0x00018006#32,
        .crWrMer2 0x00018006#32] := by decide
theorem test_witness_PageEraseErasesExactlyOnePage :
    midPair.attached = true ∧ midPair.cr.getLsbD 31 = false ∧
      (Instr.crWrPer 0x00010FFA#32).wellFormed = true ∧
      (Instr.crWrPer 0x7FFFFFFF#32).wellFormed = true := by decide
theorem test_witness_PageEraseRequestNamesItsPage :
    midPair.attached = true ∧ midPair.cr.getLsbD 31 = false ∧ 1 ≤ 1 ∧ 255 < 256 ∧
      crPerWord 1 255 = 0x00010FFA#32 ∧ crPerWord 0 0 = 0x00010002#32 := by decide
theorem test_witness_MassEraseErasesExactlyOneBank :
    midPair.attached = true ∧ midPair.cr.getLsbD 31 = false ∧
      (Instr.crWrMer1 0x00010004#32).wellFormed = true ∧
      (Instr.crWrMer2 0x00018000#32).wellFormed = true := by decide
theorem test_witness_LockedEraseStepsDoNothing :
    State.reset.attached = true ∧ State.reset.cr.getLsbD 31 = true := by decide
theorem test_witness_FailedStoreChangesNoContent :
    State.reset.attached = true ∧ State.reset.cr.getLsbD 31 = true ∧
      (0x00001#20).toNat % 4 ≠ 0 ∧ unlocked.attached = true ∧ unlocked.cr.getLsbD 0 = false ∧
      midPair.attached = true ∧ midPair.tracker = some 0x00000#20 ∧
      (0x00008#20).toNat ≠ (0x00000#20).toNat + 4 ∧
      cellAt midPair (0x00000#20).toNat ≠ 0xFFFFFFFF#32 := by decide
theorem test_witness_FirstWordOfAPair :
    pgMode.attached = true ∧ pgMode.cr.getLsbD 31 = false ∧ (0xFFFFC#20).toNat % 4 = 0 ∧
      pgMode.cr.getLsbD 0 = true ∧ pgMode.tracker = none ∧
      cellAt pgMode (0xFFFFC#20).toNat = 0xFFFFFFFF#32 := by decide
theorem test_witness_SecondWordOfAPair :
    midPair.attached = true ∧ midPair.cr.getLsbD 31 = false ∧ (0x00004#20).toNat % 4 = 0 ∧
      midPair.cr.getLsbD 0 = true ∧ midPair.tracker = some 0x00000#20 ∧
      (0x00004#20).toNat = (0x00000#20).toNat + 4 ∧
      cellAt midPair (0x00004#20).toNat = 0xFFFFFFFF#32 := by decide
theorem test_witness_ProgramDoubleWord :
    pgMode.attached = true ∧ pgMode.cr.getLsbD 31 = false ∧ pgMode.cr.getLsbD 0 = true ∧
      pgMode.tracker = none ∧ (0xFFFF8#20).toNat % 4 = 0 ∧ (0xFFFF8#20).toNat + 4 < 0x100000 ∧
      cellAt pgMode (0xFFFF8#20).toNat = 0xFFFFFFFF#32 ∧
      cellAt pgMode ((0xFFFF8#20).toNat + 4) = 0xFFFFFFFF#32 := by decide
theorem test_witness_ProgramDoubleWordStopsAtTheEnd :
    pgMode.attached = true ∧ 0x080FFFFC ≤ 0x080FFFFC ∧ 0x080FFFFC ≤ 0x080FFFFF ∧
      0x080FFFFC ≤ 0x08100000 := by decide
theorem test_witness_FlashReadReturnsTheBytes :
    midPair.attached = true ∧ (0xFFFFC#20).toNat + Width.word.bytes ≤ 0x100000 ∧
      0x100000 < (0xFFFFD#20).toNat + Width.word.bytes := by decide
theorem test_witness_AttachLoadsAndResolves :
    detached.attached = false ∧
      (MediumArg.same = .same ∧ ([] : Memory) = detached.medium) ∧
      MediumArg.image true 0x100000 mediumC6 = .image true 0x100000 mediumC6 := by decide
theorem test_witness_AttachRejectsABadMedium :
    detached.attached = false ∧ 0x0FFFFF ≠ 0x100000 ∧ 0x100001 ≠ 0x100000 := by decide
theorem test_witness_ExistenceGatesEveryOperation :
    detached.attached = false ∧ (∀ m, Instr.flashRd 0#20 .byte ≠ .attach m) ∧
      State.reset.attached = true := ⟨rfl, fun _ h => (nomatch h), rfl⟩
theorem test_witness_ResetSetsRegistersOnly :
    midPair.attached = true := by decide
theorem test_witness_DetachLeavesTheMedium :
    midPair.attached = true := by decide
theorem test_witness_PowerCycleRestoresTheBanks :
    midPair.attached = true ∧ mirrors midPair := ⟨rfl, fun _ _ _ => rfl⟩
/-- A step that stores the second word of a pair. -/
def midPairStep : State := midPair.withFetchWord 72 0x020000000412345678

theorem midPairStep_next : step midPairStep = .next (after (step midPairStep)) :=
  eq_next_after (by decide)

theorem test_witness_StepKeepsTheStateSound :
    StateSound midPairStep ∧ step midPairStep = .next (after (step midPairStep)) :=
  ⟨⟨by decide, fun _ h => by cases h; rfl, by decide, by decide⟩, midPairStep_next⟩
theorem test_witness_StepKeepsTheMirror :
    mediumReliable midPairStep ∧ mirrors midPairStep ∧
      step midPairStep = .next (after (step midPairStep)) :=
  ⟨by decide, fun _ _ _ => rfl, midPairStep_next⟩
/-- A locked instance asked for a mass erase. -/
def lockedErase : State := State.reset.withFetchWord 64 0x0000001400010004
theorem test_witness_LockedContentIsProtected :
    lockedErase.attached = true ∧ lockedErase.locked = true ∧
      step lockedErase = .next (after (step lockedErase)) ∧
      (after (step lockedErase)).attached = true :=
  ⟨rfl, rfl, eq_next_after (by decide), by decide⟩
theorem test_witness_OnlyErasesSetBits :
    pgMode.attached = true ∧
      exec (.flashWr 0x00000#20 5#32) pgMode =
        .next (after (exec (.flashWr 0x00000#20 5#32) pgMode)) ∧
      (after (exec (.flashWr 0x00000#20 5#32) pgMode)).attached = true :=
  ⟨rfl, eq_next_after (by decide), by decide⟩
theorem test_witness_OnlyErasesSetBits_erase :
    midPair.attached = true ∧
      exec (.crWr 0x00010004#32) midPair = .next (after (exec (.crWr 0x00010004#32) midPair)) ∧
      (after (exec (.crWr 0x00010004#32) midPair)).attached = true :=
  ⟨rfl, eq_next_after (by decide), by decide⟩
theorem test_witness_SwapIsFixedWhileAttached :
    midPairStep.attached = true ∧ step midPairStep = .next (after (step midPairStep)) ∧
      (after (step midPairStep)).attached = true :=
  ⟨rfl, midPairStep_next, by decide⟩
theorem test_witness_LockStateMachine :
    State.reset.attached = true ∧
      exec .keyrWrKey1 State.reset = .next (after (exec .keyrWrKey1 State.reset)) ∧
      (after (exec .keyrWrKey1 State.reset)).attached = true :=
  ⟨rfl, eq_next_after (by decide), by decide⟩
theorem test_witness_OnlyTheSecondKeyUnlocks :
    stageOne.locked = true ∧
      exec .keyrWrKey2 stageOne = .next (after (exec .keyrWrKey2 stageOne)) ∧
      (after (exec .keyrWrKey2 stageOne)).locked = false :=
  ⟨rfl, eq_next_after (by decide), by decide⟩
theorem test_witness_OnlyStoresAndResetMoveTheTracker :
    midPair.attached = true ∧ exec .reset midPair = .next (after (exec .reset midPair)) ∧
      (after (exec .reset midPair)).attached = true ∧
      (after (exec .reset midPair)).tracker ≠ midPair.tracker :=
  ⟨rfl, eq_next_after (by decide), by decide, by decide⟩
theorem test_witness_FlagsAreSticky :
    midPair.attached = true ∧ exec (.srWr 0x00010000#32) midPair =
        .next (after (exec (.srWr 0x00010000#32) midPair)) ∧
      (after (exec (.srWr 0x00010000#32) midPair)).attached = true ∧
      midPair.sr.getLsbD 16 = true ∧
      (after (exec (.srWr 0x00010000#32) midPair)).sr.getLsbD 16 = false :=
  ⟨rfl, eq_next_after (by decide), by decide, by decide, by decide⟩
/-- Both flags of an operation set. -/
def flagged : State := { unlocked with sr := 0x00000009#32 }
theorem test_witness_FlagsAreSticky_eopAndProgerr :
    flagged.attached = true ∧ exec .reset flagged = .next (after (exec .reset flagged)) ∧
      (after (exec .reset flagged)).attached = true ∧
      flagged.sr.getLsbD 0 = true ∧ (after (exec .reset flagged)).sr.getLsbD 0 = false ∧
      flagged.sr.getLsbD 3 = true ∧ (after (exec .reset flagged)).sr.getLsbD 3 = false :=
  ⟨rfl, eq_next_after (by decide), by decide, by decide, by decide, by decide, by decide⟩
theorem test_witness_MediumIsInvisibleToTheCaller :
    (∀ m, Instr.crWr 0x00010004#32 ≠ .attach m) ∧
      exceptMedium midPair =
        exceptMedium { midPair with medium := [], mediumReplies := [.failed] } ∧
      exec (.crWr 0x00010004#32) midPair =
        .next (after (exec (.crWr 0x00010004#32) midPair)) :=
  ⟨fun _ h => (nomatch h), by decide, eq_next_after (by decide)⟩
theorem test_witness_EveryOperationCompletes :
    midPair.attached = true ∧ (Instr.flashRd 0xFFFFC#20 .word).wellFormed = true ∧
      (∀ m, Instr.flashRd 0xFFFFC#20 .word ≠ .attach m) :=
  ⟨rfl, by decide, fun _ h => (nomatch h)⟩
theorem test_witness_CanonicalMemoriesAreEqual :
    Memory.wf mediumC6 ∧ ∀ a, Memory.read mediumC6 a = Memory.read mediumC6 a :=
  ⟨by decide, fun _ => rfl⟩
theorem test_witness_TranslationIsABijection :
    1 ≤ 1 ∧ 0xFFFFF < 0x100000 ∧ 0x7FFFF < 0x100000 ∧ physOffset true 0x7FFFF = 0xFFFFF := by decide

end Sys2Proof.Machine
end

