-- ==== Sys2Proof/Proofs/Step.lean ====
section
/-! PROOFS. What `step` answers in each of its three cases, and the statement made of them. -/

namespace Sys2Proof.Machine

theorem step_of_idle {s : State} (hs : s.requests = []) : step s = .next s := by
  simp only [step, hs]

theorem step_of_decoded {s : State} {r : List Byte} {rest : List (List Byte)} {i : Instr}
    (hs : s.requests = r :: rest) (hr : decode r = .ok i) :
    step s = exec i (s.takeRequest rest) := by
  simp only [step, hs, hr]

theorem step_of_undecodable {s : State} {r : List Byte} {rest : List (List Byte)}
    {why : DecodeError} (hs : s.requests = r :: rest) (hr : decode r = .error why) :
    step s = .refused (.undecodable why) := by
  simp only [step, hs, hr]

/-- Settles O4: one equation of `step` for each outcome of taking and decoding a request. -/
theorem stepPerformsTheDecodedRequest : Obligations.StepPerformsTheDecodedRequest := by
  refine ⟨fun s r rest i hs hr => ?decoded, fun s r rest e hs hr => ?undecodable,
    fun s hs => ?idle⟩
  case decoded => exact step_of_decoded hs hr
  case undecodable => exact step_of_undecodable hs hr
  case idle => exact step_of_idle hs

end Sys2Proof.Machine
end

section
/-! PROOFS. Existence (10_state.md rule R25), the state after reset (rule R23), and the uniqueness of
the canonical form of a memory (rules R18, R19). -/

namespace Sys2Proof.Machine

/-! ### Existence -/

/-- Every operation but ATTACH asks for existence first (rule R25). -/
theorem exec_eq_onInstance (i : Instr) (s : State) (hi : ∀ m, i ≠ .attach m) :
    ∃ r, exec i s = s.onInstance r := by
  cases i
  case attach m => exact absurd rfl (hi m)
  all_goals exact ⟨_, rfl⟩

theorem exec_attach_attached {s : State} (m : MediumArg) (hs : s.attached = true) :
    exec (.attach m) s = .refused .alreadyAttached := by
  simp [exec, execAttach, hs]

/-- Settles O32: an operation on an instance is refused where there is none, and ATTACH asks for
existence first. -/
theorem existenceGatesEveryOperation : Obligations.ExistenceGatesEveryOperation := by
  refine ⟨fun s i hs hi => ?_, fun s m hs => exec_attach_attached m hs⟩
  obtain ⟨r, hr⟩ := exec_eq_onInstance i s hi
  rw [hr, onInstance_detached s r hs]

/-! ### The state after reset -/

/-- Settles O37: `SR` is 0, the tracker none, and both memories are blank. -/
theorem resetStateIsSound : Obligations.ResetStateIsSound where
  status := by decide
  tracker := fun _ ht => nomatch ht
  banksForm := wf_nil
  mediumForm := wf_nil

/-- Settles O39: no answer of the medium is listed, and banks and medium are the same blank
memory. -/
theorem resetStateMirrors : Obligations.ResetStateMirrors :=
  ⟨fun _ hr => (nomatch hr), fun _ _ _ => rfl⟩

/-! ### The canonical form -/

theorem wf_cons_iff {c : Host.Cell} {m : Memory} :
    Memory.wf (c :: m) ↔
      (∀ d ∈ m, c.1 < d.1) ∧ (c.2 ≠ Config.erasedByte ∧ c.1 < Config.flashSize) ∧ m.wf := by
  simp only [Memory.wf, List.pairwise_cons, List.forall_mem_cons]
  tauto

/-- Below its first listed offset a canonical memory is erased. -/
theorem read_below_head {c : Host.Cell} {m : Memory} (h : Memory.wf (c :: m)) {a : Nat}
    (ha : a < c.1) : Memory.read (c :: m) a = 0xFF#8 := by
  obtain ⟨hlt, -, -⟩ := wf_cons_iff.mp h
  refine read_unlisted _ _ fun d hd => ?_
  rcases List.mem_cons.mp hd with rfl | hd
  · omega
  · have := hlt d hd
    omega

/-- At its first listed offset a canonical memory is not erased. -/
theorem read_head_ne {c : Host.Cell} {m : Memory} (h : Memory.wf (c :: m)) :
    Memory.read (c :: m) c.1 ≠ 0xFF#8 := by
  obtain ⟨-, ⟨hne, -⟩, -⟩ := wf_cons_iff.mp h
  simpa using hne

/-- The rest of a canonical memory reads as the whole does, but for the first offset, where it is
erased. -/
theorem read_tail {c : Host.Cell} {m : Memory} (h : Memory.wf (c :: m)) (a : Nat) :
    m.read a = if c.1 = a then 0xFF#8 else Memory.read (c :: m) a := by
  obtain ⟨hlt, -, -⟩ := wf_cons_iff.mp h
  split
  · exact read_unlisted m a fun d hd => by have := hlt d hd; omega
  · rw [read_cons, if_neg ‹_›]

/-- Settles O49, by induction on the first list: the first listed offsets agree, since the memory
that begins later is erased at the other's first offset. -/
theorem canonicalMemoriesAreEqual : Obligations.CanonicalMemoriesAreEqual := by
  intro m
  induction m with
  | nil =>
    intro m' _ hm' hread
    cases m' with
    | nil => rfl
    | cons d m' => exact absurd (hread d.1).symm (read_head_ne hm')
  | cons c m ih =>
    intro m' hm hm' hread
    cases m' with
    | nil => exact absurd (hread c.1) (read_head_ne hm)
    | cons d m' =>
      obtain ⟨-, -, hwf⟩ := wf_cons_iff.mp hm
      obtain ⟨-, -, hwf'⟩ := wf_cons_iff.mp hm'
      have hoff : c.1 = d.1 := by
        rcases Nat.lt_trichotomy c.1 d.1 with hlt | heq | hgt
        · exact absurd ((hread c.1).trans (read_below_head hm' hlt)) (read_head_ne hm)
        · exact heq
        · exact absurd ((hread d.1).symm.trans (read_below_head hm hgt)) (read_head_ne hm')
      have hbyte : c.2 = d.2 := by simpa [hoff] using hread c.1
      have htail : m = m' := by
        refine ih m' hwf hwf' fun a => ?_
        rw [read_tail hm, read_tail hm', hoff, hread a]
      rw [Prod.ext hoff hbyte, htail]

end Sys2Proof.Machine
end

section
/-! PROOFS. What an operation can do to existence, `swap`, banks and medium, said once
(`ContentEffect`), and the statements that follow from it: the protection by `LOCK`, the fixed
`swap`, that only an erase sets bits, and the mirror of the banks. -/

namespace Sys2Proof.Machine

/-! ### The content of a state -/

/-- Existence, `swap`, banks, medium and the medium's coming answers: what remains of a state
without its registers, its waiting requests and its field out. -/
structure Content where
  attached : Bool
  swap : Bool
  banks : Memory
  medium : Memory
  mediumReplies : List MediumReply

def State.content (s : State) : Content :=
  ⟨s.attached, s.swap, s.banks, s.medium, s.mediumReplies⟩

theorem content_eq_iff {s t : State} :
    t.content = s.content ↔
      t.attached = s.attached ∧ t.swap = s.swap ∧ t.banks = s.banks ∧ t.medium = s.medium ∧
        t.mediumReplies = s.mediumReplies := by
  simp only [State.content, Content.mk.injEq]

theorem content_banks {s t : State} (h : t.content = s.content) : t.banks = s.banks :=
  congrArg Content.banks h

theorem content_swap {s t : State} (h : t.content = s.content) : t.swap = s.swap :=
  congrArg Content.swap h

theorem content_medium {s t : State} (h : t.content = s.content) : t.medium = s.medium :=
  congrArg Content.medium h

section Registers
variable (s : State)

@[simp] theorem setCr_content (v : Word) : (s.setCr v).content = s.content := rfl
@[simp] theorem setSr_content (v : Word) : (s.setSr v).content = s.content := rfl
@[simp] theorem setStage_content (v : Stage) : (s.setStage v).content = s.content := rfl
@[simp] theorem setTracker_content (v : Option FlashOffset) :
    (s.setTracker v).content = s.content := rfl
@[simp] theorem initRegisters_content : (initRegisters s).content = s.content := rfl

@[simp] theorem keyrKey1_content : (keyrKey1 s).content = s.content := by simp [keyrKey1_eq]
@[simp] theorem keyrKey2_content : (keyrKey2 s).content = s.content := by simp [keyrKey2_eq]
@[simp] theorem keyrOther_content : (keyrOther s).content = s.content := rfl
@[simp] theorem crLockStep_content : (crLockStep s).content = s.content := rfl
@[simp] theorem crStoreStep_content (data : Word) : (crStoreStep s data).content = s.content := rfl
@[simp] theorem crStrtLockedStep_content : (crStrtLockedStep s).content = s.content := rfl
@[simp] theorem raiseViolation_content (cause : ViolationCause) :
    (raiseViolation s cause).content = s.content := by simp [raiseViolation_eq]
@[simp] theorem advancePair_content (off : FlashOffset) :
    (advancePair s off).content = s.content := by simp [advancePair_eq]

end Registers

/-! ### Erases -/

/-- What any number of erases, with register updates between them, does to the content: rules R120
and R121 write 0xFF to a range of banks and medium. -/
inductive Erases : State → State → Prop
  | registers {s t : State} (h : t.content = s.content) : Erases s t
  | range (s : State) (lo n : Nat) (hb : lo + payloadSize (.erased n) ≤ 0x100000) :
    Erases s (storeMirrored s lo (.erased n))
  | trans {s t u : State} (hst : Erases s t) (htu : Erases t u) : Erases s u

theorem erases_endOfOperation {s t : State} (h : Erases s t) : Erases s (endOfOperation t) :=
  h.trans (.registers rfl)

theorem erases_crPerStep (s : State) : Erases s (crPerStep s) :=
  erases_endOfOperation
    (.range s _ _ (pageStart_bound _ _ _ (bankIndex_le_one s.cr) (pageIndex_lt s.cr)))

theorem erases_crMer1Step (s : State) : Erases s (crMer1Step s) :=
  erases_endOfOperation (.range s _ _ (bankStart_bound _ _ (by decide)))

theorem erases_crMer2Step (s : State) : Erases s (crMer2Step s) :=
  erases_endOfOperation (.range s _ _ (bankStart_bound _ _ (by decide)))

theorem erases_crWrite (s : State) (data : Word) : Erases s (crWrite s data) :=
  crWrite_induction Erases s data
    (hrefl := fun _ => .registers rfl)
    (htrans := fun _ _ _ => .trans)
    (hlock := fun _ => .registers (crLockStep_content s))
    (hstore := fun _ => .registers (crStoreStep_content s data))
    (hviolation := fun u _ => .registers (crStrtLockedStep_content u))
    (hper := fun u _ => erases_crPerStep u)
    (hmer1 := fun u _ => erases_crMer1Step u)
    (hmer2 := fun u _ => erases_crMer2Step u)

/-- A locked CR write erases nothing (rules R80, R83). -/
theorem crWrite_content_of_locked (s : State) (data : Word) (hs : s.locked = true) :
    (crWrite s data).content = s.content := by
  have h : s.locked = true → (crWrite s data).locked = true ∧
      (crWrite s data).content = s.content :=
    crWrite_induction
      (fun u v => u.locked = true → v.locked = true ∧ v.content = u.content) s data
      (hrefl := fun _ hu => ⟨hu, rfl⟩)
      (htrans := fun u v w huv hvw hu => by
        obtain ⟨hv, huv⟩ := huv hu
        obtain ⟨hw, hvw⟩ := hvw hv
        exact ⟨hw, hvw.trans huv⟩)
      (hlock := fun _ _ => ⟨crLockStep_locked s, rfl⟩)
      (hstore := fun _ hu => ⟨(crStoreStep_locked s data).trans hu, rfl⟩)
      (hviolation := fun u hl _ => ⟨hl, rfl⟩)
      (hper := fun u hl hu => absurd hu (by simp [hl]))
      (hmer1 := fun u hl hu => absurd hu (by simp [hl]))
      (hmer2 := fun u hl hu => absurd hu (by simp [hl]))
  exact (h hs).2

/-! ### The checks of a flash store -/

/-- A flash store is performed exactly where all five checks of rule R101 pass. -/
theorem programCheck_eq_none_iff {s : State} {off : FlashOffset} :
    programCheck s off = none ↔
      s.locked = false ∧ off.toNat % 4 = 0 ∧ s.programEnabled = true ∧
        followsTracker s.tracker off = true ∧ cellAt s off.toNat = 0xFFFFFFFF#32 := by
  simp only [programCheck, Config.erasedWord]
  split_ifs <;> simp_all

/-- Every byte of an erased word is an erased byte. -/
theorem byteOf_erasedWord {k : Nat} (hk : k < 4) : byteOf 0xFFFFFFFF#32 k = 0xFF#8 := by
  interval_cases k <;> decide

/-- The bytes of a word that reads erased are erased. -/
theorem read_eq_erased_of_readWord {m : Memory} {lo a : Nat}
    (h : m.readWord lo = 0xFFFFFFFF#32) (hlo : lo ≤ a) (ha : a < lo + 4) :
    m.read a = 0xFF#8 := by
  have hbyte : byteOf (m.readWord lo) (a - lo) = m.read a := by
    obtain rfl | rfl | rfl | rfl : a = lo ∨ a = lo + 1 ∨ a = lo + 2 ∨ a = lo + 3 := by omega
    all_goals simp [Memory.readWord]
  rw [← hbyte, h, byteOf_erasedWord (by omega)]

/-! ### What an operation does to the content -/

/-- The operations that can run an erase: a CR write and its three erase sub-operations. -/
def mayErase : Instr → Bool
  | .crWr _ | .crWrPer _ | .crWrMer1 _ | .crWrMer2 _ => true
  | _ => false

/-- All that an operation other than ATTACH can do to the content: nothing, erases, the store of a
word, or the end of existence. -/
inductive ContentEffect : Instr → State → State → Prop
  | unchanged {i : Instr} {s t : State} (h : t.content = s.content) : ContentEffect i s t
  | erases {i : Instr} {s t : State} (hi : mayErase i = true) (hs : s.locked = false)
    (h : Erases s t) : ContentEffect i s t
  | stores {off : FlashOffset} {data : Word} {s u t : State} (hc : programCheck s off = none)
    (hu : u.content = s.content) (ht : t.content = (storeCell u off.toNat data).content) :
    ContentEffect (.flashWr off data) s t
  | ends {s t : State} (ha : t.attached = false) (hb : t.banks = [])
    (hm : t.medium = s.medium) (hr : t.mediumReplies = s.mediumReplies) : ContentEffect .detach s t

theorem crWrite_contentEffect (s : State) (data : Word) {t : State}
    (ht : t.content = (crWrite s data).content) : ContentEffect (.crWr data) s t := by
  cases hs : s.locked with
  | true => exact .unchanged (ht.trans (crWrite_content_of_locked s data hs))
  | false => exact .erases rfl hs ((erases_crWrite s data).trans (.registers ht))

theorem Effect.contentEffect {i : Instr} {s u t : State} (h : Effect i s u)
    (ht : t.content = u.content) : ContentEffect i s t := by
  cases h with
  | acrRd | acrWr | keyrRd | srRd | crRd | unkRd | unkWr | flashRd => exact .unchanged ht
  | keyrWrFirst | keyrWrKey1 => exact .unchanged (ht.trans (keyrKey1_content s))
  | keyrWrSecond | keyrWrKey2 => exact .unchanged (ht.trans (keyrKey2_content s))
  | keyrWrOthers | keyrWrOther => exact .unchanged (ht.trans (keyrOther_content s))
  | srWr => exact .unchanged (ht.trans (by simp))
  | crWr _ data => exact crWrite_contentEffect s data ht
  | crWrLock => exact .unchanged (ht.trans (crLockStep_content s))
  | crWrStore _ data => exact .unchanged (ht.trans (crStoreStep_content s data))
  | crWrStrtLocked => exact .unchanged (ht.trans (crStrtLockedStep_content s))
  | crWrStrtLockedIdle | crWrPerIdle | crWrMer1Idle | crWrMer2Idle => exact .unchanged ht
  | crWrPer _ _ hs => exact .erases rfl hs ((erases_crPerStep s).trans (.registers ht))
  | crWrMer1 _ _ hs => exact .erases rfl hs ((erases_crMer1Step s).trans (.registers ht))
  | crWrMer2 _ _ hs => exact .erases rfl hs ((erases_crMer2Step s).trans (.registers ht))
  | flashWrFails _ _ _ cause => exact .unchanged (ht.trans (raiseViolation_content s cause))
  | flashWrStores _ off _ hc => exact .stores hc (advancePair_content s off) ht
  | reset => exact .unchanged (ht.trans (initRegisters_content s))
  | detach =>
    obtain ⟨ha, -, hb, hm, hr⟩ := content_eq_iff.mp ht
    exact .ends ha hb hm hr

theorem exec_contentEffect {i : Instr} {s t : State} (hs : s.attached = true)
    (h : exec i s = .next t) : ContentEffect i s t := by
  rcases exec_next_cases h with ⟨hs', -⟩ | ⟨-, u, r, hu, rfl⟩
  · simp [hs] at hs'
  · exact hu.contentEffect rfl

/-- What a step does to the content is what the operation it performs does. -/
theorem step_contentEffect {s t : State} (hs : s.attached = true) (h : step s = .next t) :
    t = s ∨ ∃ i rest, ContentEffect i (s.takeRequest rest) t := by
  rcases step_next_cases h with ⟨-, rfl⟩ | ⟨r, rest, i, -, -, hi⟩
  · exact .inl rfl
  · exact .inr ⟨i, rest, exec_contentEffect hs hi⟩

/-! ### The protection by `LOCK` -/

theorem ContentEffect.content_of_locked {i : Instr} {s t : State} (h : ContentEffect i s t)
    (hs : s.locked = true) :
    t.medium = s.medium ∧ (t.attached = true → t.banks = s.banks) := by
  cases h with
  | unchanged h => exact ⟨content_medium h, fun _ => content_banks h⟩
  | erases _ hl => simp [hs] at hl
  | stores hc =>
    obtain ⟨hl, -⟩ := programCheck_eq_none_iff.mp hc
    simp [hs] at hl
  | ends ha _ hm => exact ⟨hm, fun ht => by simp [ha] at ht⟩

/-- Settles O40: erases and stores need `LOCK` = 0, and DETACH leaves the medium. -/
theorem lockedContentIsProtected : Obligations.LockedContentIsProtected := by
  intro s t hs hl h
  rcases step_contentEffect hs h with rfl | ⟨i, rest, hi⟩
  · exact ⟨rfl, fun _ => rfl⟩
  · exact hi.content_of_locked hl

/-! ### `swap` -/

theorem Erases.swap_eq {s t : State} (h : Erases s t) : t.swap = s.swap := by
  induction h with
  | registers h => exact content_swap h
  | range s lo n => exact storeMirrored_swap s lo (.erased n)
  | trans _ _ hst htu => exact htu.trans hst

theorem ContentEffect.swap_eq {i : Instr} {s t : State} (h : ContentEffect i s t)
    (ht : t.attached = true) : t.swap = s.swap := by
  cases h with
  | unchanged h => exact content_swap h
  | erases _ _ h => exact h.swap_eq
  | stores _ hu ht =>
    calc t.swap = (storeCell _ _ _).swap := content_swap ht
      _ = _ := storeMirrored_swap _ _ _
      _ = s.swap := content_swap hu
  | ends ha => simp [ha] at ht

/-- Settles O42: ATTACH and DETACH alone write `swap`. -/
theorem swapIsFixedWhileAttached : Obligations.SwapIsFixedWhileAttached := by
  intro s t hs h ht
  rcases step_contentEffect hs h with rfl | ⟨i, rest, hi⟩
  · rfl
  · exact hi.swap_eq ht

/-! ### Bits of a bank byte -/

theorem Erases.read_banks {s t : State} (h : Erases s t) (a : Nat) :
    t.banks.read a = s.banks.read a ∨ t.banks.read a = 0xFF#8 := by
  induction h with
  | registers h => exact .inl (by rw [content_banks h])
  | range s lo n =>
    rw [storeMirrored_banks, read_put]
    split
    · exact .inr rfl
    · exact .inl rfl
  | trans _ _ hst htu =>
    rcases htu with htu | htu
    · rwa [htu]
    · exact .inr htu

/-- A store on an erased cell clears bits only (rule R101 check 5). -/
theorem storeCell_sets_no_bit {s u : State} {off : FlashOffset} (data : Word)
    (hc : programCheck s off = none) (hu : u.content = s.content) (a : Nat) :
    (storeCell u off.toNat data).banks.read a &&& ~~~s.banks.read a = 0x00#8 := by
  obtain ⟨-, halign, -, -, hcell⟩ := programCheck_eq_none_iff.mp hc
  rw [cellAt_eq s _ halign] at hcell
  rw [storeCell, storeMirrored_banks, read_put, content_banks hu, content_swap hu]
  split
  · rename_i ha
    rw [read_eq_erased_of_readWord hcell ha.1 ha.2]
    simp
  · exact BitVec.and_not_self _

theorem ContentEffect.read_banks {i : Instr} {s t : State} (h : ContentEffect i s t)
    (ht : t.attached = true) (a : Nat) :
    (mayErase i = true → t.banks.read a = s.banks.read a ∨ t.banks.read a = 0xFF#8) ∧
      (mayErase i = false → t.banks.read a &&& ~~~s.banks.read a = 0x00#8) := by
  cases h with
  | unchanged h =>
    rw [content_banks h]
    exact ⟨fun _ => .inl rfl, fun _ => BitVec.and_not_self _⟩
  | erases hi _ h => exact ⟨fun _ => h.read_banks a, fun hi' => by simp [hi] at hi'⟩
  | stores hc hu ht =>
    refine ⟨fun hi => (nomatch hi), fun _ => ?_⟩
    rw [content_banks ht]
    exact storeCell_sets_no_bit _ hc hu a
  | ends ha => simp [ha] at ht

/-- Settles O41: an erase writes 0xFF, and a store only reaches an erased cell. -/
theorem onlyErasesSetBits : Obligations.OnlyErasesSetBits := by
  intro i s t a hs ht h
  obtain ⟨herase, hother⟩ := (exec_contentEffect hs h).read_banks ht a
  cases i with
  | crWr | crWrPer | crWrMer1 | crWrMer2 => exact herase rfl
  | _ => exact hother rfl

/-! ### The mirror -/

/-- The invariant of the mirror: no answer of the medium fails, and banks and medium read alike. -/
def Mirrored (s : State) : Prop := mediumReliable s ∧ mirrors s

theorem mirrored_of_content_eq {s t : State} (h : t.content = s.content) (hs : Mirrored s) :
    Mirrored t := by
  obtain ⟨ha, -, hb, hm, hr⟩ := content_eq_iff.mp h
  simpa only [Mirrored, mediumReliable, mirrors, ha, hb, hm, hr] using hs

theorem nextReply_of_reliable {s : State} (h : mediumReliable s) : nextReply s = .stored := by
  unfold nextReply
  cases hr : s.mediumReplies with
  | nil => rfl
  | cons r rest => exact h r (by simp [hr])

theorem mirrored_storeMirrored {s : State} (lo : Nat) (p : Payload) (h : Mirrored s) :
    Mirrored (storeMirrored s lo p) := by
  obtain ⟨hrel, hmir⟩ := h
  refine ⟨fun r hr => ?_, fun ha a hlt => ?_⟩
  · rw [storeMirrored_mediumReplies] at hr
    exact hrel r (List.mem_of_mem_tail hr)
  · rw [storeMirrored_attached] at ha
    obtain ⟨hm, -⟩ := storeMirrored_stored s lo p (nextReply_of_reliable hrel)
    rw [hm, storeMirrored_banks, read_put, read_put, hmir ha a hlt]

theorem Erases.mirrored {s t : State} (h : Erases s t) : Mirrored s → Mirrored t := by
  induction h with
  | registers h => exact mirrored_of_content_eq h
  | range s lo n => exact mirrored_storeMirrored lo (.erased n)
  | trans _ _ hst htu => exact htu ∘ hst

theorem ContentEffect.mirrored {i : Instr} {s t : State} (h : ContentEffect i s t)
    (hs : Mirrored s) : Mirrored t := by
  cases h with
  | unchanged h => exact mirrored_of_content_eq h hs
  | erases _ _ h => exact h.mirrored hs
  | stores _ hu ht =>
    exact mirrored_of_content_eq ht (mirrored_storeMirrored _ _ (mirrored_of_content_eq hu hs))
  | ends ha _ _ hr =>
    obtain ⟨hrel, -⟩ := hs
    exact ⟨fun r hm => hrel r (hr ▸ hm), fun ht => by simp [ha] at ht⟩

/-- An ATTACH uses no answer of the medium, and the load makes the banks the medium's copy
(rule R131). -/
theorem mirrored_createInstance {s : State} (h : mediumReliable s) :
    Mirrored (createInstance s).done :=
  ⟨h, fun _ _ _ => rfl⟩

theorem AttachSource.mediumReplies_eq {m : MediumArg} {s u : State} (h : AttachSource m s u) :
    u.mediumReplies = s.mediumReplies := by
  cases h <;> rfl

theorem exec_mirrored {i : Instr} {s t : State} (hs : Mirrored s) (h : exec i s = .next t) :
    Mirrored t := by
  rcases exec_next_cases h with ⟨-, m, u, -, hu, rfl⟩ | ⟨ha, -⟩
  · refine mirrored_createInstance fun r hr => hs.1 r ?_
    rwa [hu.mediumReplies_eq] at hr
  · exact (exec_contentEffect ha h).mirrored hs

/-- Settles O38: a write puts the same bytes in banks and medium, and ATTACH loads the banks from
the medium. -/
theorem stepKeepsTheMirror : Obligations.StepKeepsTheMirror := by
  intro s t hrel hmir h
  rcases step_next_cases h with ⟨-, rfl⟩ | ⟨r, rest, i, -, -, hi⟩
  · exact ⟨hrel, hmir⟩
  · exact exec_mirrored (s := s.takeRequest rest) ⟨hrel, hmir⟩ hi

end Sys2Proof.Machine
end

section
/-! PROOFS. What an operation can do to `SR` and to the tracker, said once, and the statements that
follow from it: which operations let a flag fall, and that every step keeps a state sound. -/

namespace Sys2Proof.Machine

/-! ### The flags of `SR` -/

/-- The word has bits among the three flags of `SR` alone (rule R12). -/
abbrev flagsOnly (w : Word) : Prop := w &&& ~~~0x00010009#32 = 0#32

theorem flagsOnly_or {v w : Word} (hv : flagsOnly v) (hw : flagsOnly w) : flagsOnly (v ||| w) := by
  unfold flagsOnly at *
  rw [BitVec.and_comm, BitVec.and_or_distrib_left, BitVec.and_comm _ v, hv, BitVec.and_comm _ w, hw]
  rfl

theorem flagsOnly_and {v : Word} (w : Word) (hv : flagsOnly v) : flagsOnly (v &&& w) := by
  unfold flagsOnly at *
  rw [BitVec.and_assoc, BitVec.and_comm w, ← BitVec.and_assoc, hv, BitVec.zero_and]

theorem getLsbD_or_of_left {v : Word} (w : Word) {b : Nat} (hb : v.getLsbD b = true) :
    (v ||| w).getLsbD b = true := by
  simp [hb]

/-- A cleared flag was named by the written word (rule R55). -/
theorem getLsbD_of_clearFlags {sr data : Word} {b : Nat} (hs : sr.getLsbD b = true)
    (ht : (clearFlags sr data).getLsbD b = false) : data.getLsbD b = true := by
  have hlt : b < 32 := BitVec.lt_of_getLsbD hs
  simpa [clearFlags, hs, hlt] using ht

/-- Clearing `BSY` clears no other flag. -/
theorem getLsbD_clearBsy {sr : Word} {b : Nat} (hb : b ≠ 16) :
    (clearBsy sr).getLsbD b = sr.getLsbD b := by
  have hmask : Config.srBsyMask.getLsbD b = false := by
    rw [show Config.srBsyMask = BitVec.twoPow 32 16 by decide, BitVec.getLsbD_twoPow]
    simp [Ne.symm hb]
  rw [clearBsy, BitVec.getLsbD_and, BitVec.getLsbD_not, hmask]
  cases hs : sr.getLsbD b with
  | false => rfl
  | true => simp [BitVec.lt_of_getLsbD hs]

/-- A word that flags were raised in, and none let fall (decision D26). -/
def Raises (v w : Word) : Prop := ∃ m, flagsOnly m ∧ w = v ||| m

theorem raises_refl (v : Word) : Raises v v := ⟨0#32, by decide, by simp⟩

theorem raises_trans {u v w : Word} : Raises u v → Raises v w → Raises u w := by
  rintro ⟨m, hm, rfl⟩ ⟨n, hn, rfl⟩
  exact ⟨m ||| n, flagsOnly_or hm hn, BitVec.or_assoc ..⟩

theorem raises_setEop (v : Word) : Raises v (setEop v) := ⟨Config.srEopMask, by decide, rfl⟩

theorem raises_setProgErr (v : Word) : Raises v (setProgErr v) :=
  ⟨Config.srProgErrMask, by decide, rfl⟩

theorem raises_setBsy (v : Word) : Raises v (setBsy v) := ⟨Config.srBsyMask, by decide, rfl⟩

theorem raises_flagsOnly {v w : Word} (hv : flagsOnly v) : Raises v w → flagsOnly w := by
  rintro ⟨m, hm, rfl⟩
  exact flagsOnly_or hv hm

theorem raises_getLsbD {v w : Word} {b : Nat} (hv : v.getLsbD b = true) :
    Raises v w → w.getLsbD b = true := by
  rintro ⟨m, -, rfl⟩
  exact getLsbD_or_of_left m hv

/-- A CR write raises `EOP` or `PROGERR` at most (rules R83 to R86). -/
theorem crWrite_sr_raises (s : State) (data : Word) : Raises s.sr (crWrite s data).sr :=
  crWrite_induction (fun u v => Raises u.sr v.sr) s data
    (hrefl := fun _ => raises_refl _)
    (htrans := fun _ _ _ => raises_trans)
    (hlock := fun _ => raises_refl _)
    (hstore := fun _ => raises_refl _)
    (hviolation := fun u _ => raises_setProgErr u.sr)
    (hper := fun u _ => crPerStep_sr u ▸ raises_setEop u.sr)
    (hmer1 := fun u _ => crMer1Step_sr u ▸ raises_setEop u.sr)
    (hmer2 := fun u _ => crMer2Step_sr u ▸ raises_setEop u.sr)

/-! ### What an operation does to `SR` -/

/-- All that an operation other than ATTACH can do to `SR`: raise flags, clear the written ones, clear
`BSY` on the program path, or clear the whole register. -/
inductive StatusEffect : Instr → Word → Word → Prop
  | raises {i : Instr} {v w : Word} (h : Raises v w) : StatusEffect i v w
  | clears (data v : Word) : StatusEffect (.srWr data) v (clearFlags v data)
  | programs (off : FlashOffset) (data : Word) {v w : Word} (h : Raises (clearBsy v) w) :
    StatusEffect (.flashWr off data) v w
  | zeroes {i : Instr} (v : Word) (hi : i = .reset ∨ i = .detach) : StatusEffect i v 0#32

theorem raiseViolation_statusEffect (off : FlashOffset) (data : Word) (s : State)
    (cause : ViolationCause) :
    StatusEffect (.flashWr off data) s.sr (raiseViolation s cause).sr := by
  cases cause with
  | startLocked => exact .raises (raises_setProgErr s.sr)
  | _ => exact .programs off data (raises_setProgErr (clearBsy s.sr))

theorem advancePair_statusEffect (off : FlashOffset) (data : Word) (s : State) :
    StatusEffect (.flashWr off data) s.sr (advancePair s off).sr := by
  rw [advancePair_eq, setSr_sr]
  split
  · exact .raises (raises_setBsy s.sr)
  · exact .programs off data (raises_setEop (clearBsy s.sr))

theorem Effect.statusEffect {i : Instr} {s t : State} (h : Effect i s t) :
    StatusEffect i s.sr t.sr := by
  cases h with
  | acrRd | acrWr | keyrRd | srRd | crRd | unkRd | unkWr | flashRd => exact .raises (raises_refl _)
  | keyrWrFirst | keyrWrKey1 => rw [keyrKey1_eq]; exact .raises (raises_refl _)
  | keyrWrSecond | keyrWrKey2 => rw [keyrKey2_eq]; exact .raises (raises_refl _)
  | keyrWrOthers | keyrWrOther => exact .raises (raises_refl _)
  | srWr _ data => exact .clears data s.sr
  | crWr _ data => exact .raises (crWrite_sr_raises s data)
  | crWrLock | crWrStore => exact .raises (raises_refl _)
  | crWrStrtLocked => exact .raises (raises_setProgErr s.sr)
  | crWrStrtLockedIdle | crWrPerIdle | crWrMer1Idle | crWrMer2Idle =>
    exact .raises (raises_refl _)
  | crWrPer => exact .raises (crPerStep_sr s ▸ raises_setEop s.sr)
  | crWrMer1 => exact .raises (crMer1Step_sr s ▸ raises_setEop s.sr)
  | crWrMer2 => exact .raises (crMer2Step_sr s ▸ raises_setEop s.sr)
  | flashWrFails _ off data cause => exact raiseViolation_statusEffect off data s cause
  | flashWrStores _ off data =>
    rw [storeCell, storeMirrored_sr]
    exact advancePair_statusEffect off data s
  | reset => exact .zeroes s.sr (.inl rfl)
  | detach => exact .zeroes s.sr (.inr rfl)

theorem Effect.attached_of_eq_detach {i : Instr} {s t : State} (h : Effect i s t)
    (hi : i = .detach) : t.attached = false := by
  subst hi
  cases h
  rfl

/-! ### Which operations let a flag fall -/

theorem StatusEffect.fallen {i : Instr} {v w : Word} (h : StatusEffect i v w) {b : Nat}
    (hv : v.getLsbD b = true) (hw : w.getLsbD b = false) :
    i = .reset ∨ i = .detach ∨ (∃ data, i = .srWr data ∧ data.getLsbD b = true) ∨
      (b = 16 ∧ ∃ off data, i = .flashWr off data) := by
  cases h with
  | raises h => simp [raises_getLsbD hv h] at hw
  | clears data => exact .inr (.inr (.inl ⟨data, rfl, getLsbD_of_clearFlags hv hw⟩))
  | programs off data h =>
    refine .inr (.inr (.inr ⟨?_, off, data, rfl⟩))
    by_contra hb
    simp [raises_getLsbD ((getLsbD_clearBsy hb).trans hv) h] at hw
  | zeroes _ hi => exact hi.imp_right .inl

theorem exec_fallen {i : Instr} {s t : State} {b : Nat} (hs : s.attached = true)
    (h : exec i s = .next t) (ht : t.attached = true) (hv : s.sr.getLsbD b = true)
    (hw : t.sr.getLsbD b = false) :
    i = .reset ∨ (∃ data, i = .srWr data ∧ data.getLsbD b = true) ∨
      (b = 16 ∧ ∃ off data, i = .flashWr off data) := by
  rcases exec_next_cases h with ⟨hs', -⟩ | ⟨-, u, r, hu, rfl⟩
  · simp [hs] at hs'
  · rcases hu.statusEffect.fallen hv hw with hi | hi | hi
    · exact .inl hi
    · exact absurd ht (by simp [hu.attached_of_eq_detach hi])
    · exact .inr hi

/-- Settles O46: of the effects on `SR`, the program path lets `BSY` alone fall. -/
theorem flagsAreSticky : Obligations.FlagsAreSticky := by
  intro i s t hs h ht
  refine ⟨fun b hb hv hw => ?_, fun hv hw => ?_⟩
  · rcases exec_fallen hs h ht hv hw with hi | hi | ⟨rfl, -⟩
    · exact .inl hi
    · exact .inr hi
    · simp at hb
  · rcases exec_fallen hs h ht hv hw with hi | hi | ⟨-, hi⟩
    · exact .inl hi
    · exact .inr (.inl hi)
    · exact .inr (.inr hi)

/-! ### Soundness of `SR` -/

theorem StatusEffect.flagsOnly {i : Instr} {v w : Word} (h : StatusEffect i v w)
    (hv : flagsOnly v) : flagsOnly w := by
  cases h with
  | raises h => exact raises_flagsOnly hv h
  | clears data => exact flagsOnly_and (~~~data) hv
  | programs _ _ h => exact raises_flagsOnly (flagsOnly_and _ hv) h
  | zeroes => exact BitVec.zero_and

/-! ### Soundness of the tracker -/

/-- The tracker stays, is dropped, or takes the offset of a store that passed the five checks. -/
theorem Effect.tracker_cases {i : Instr} {s t : State} (h : Effect i s t) :
    t.tracker = s.tracker ∨ t.tracker = none ∨
      ∃ off, programCheck s off = none ∧ t.tracker = some off := by
  cases h with
  | acrRd | acrWr | keyrRd | srRd | crRd | unkRd | unkWr | flashRd => exact .inl rfl
  | keyrWrFirst | keyrWrKey1 => rw [keyrKey1_eq]; exact .inl rfl
  | keyrWrSecond | keyrWrKey2 => rw [keyrKey2_eq]; exact .inl rfl
  | keyrWrOthers | keyrWrOther => exact .inl rfl
  | srWr => exact .inl rfl
  | crWr _ data =>
    exact .inl <| crWrite_induction (fun u v => v.tracker = u.tracker) s data
      (hrefl := fun _ => rfl)
      (htrans := fun _ _ _ huv hvw => hvw.trans huv)
      (hlock := fun _ => rfl)
      (hstore := fun _ => rfl)
      (hviolation := fun _ _ => rfl)
      (hper := fun u _ => crPerStep_tracker u)
      (hmer1 := fun u _ => crMer1Step_tracker u)
      (hmer2 := fun u _ => crMer2Step_tracker u)
  | crWrLock | crWrStore | crWrStrtLocked => exact .inl rfl
  | crWrStrtLockedIdle | crWrPerIdle | crWrMer1Idle | crWrMer2Idle => exact .inl rfl
  | crWrPer => exact .inl (crPerStep_tracker s)
  | crWrMer1 => exact .inl (crMer1Step_tracker s)
  | crWrMer2 => exact .inl (crMer2Step_tracker s)
  | flashWrFails _ _ _ cause =>
    rw [raiseViolation_eq, setTracker_tracker]
    split
    · exact .inl rfl
    · exact .inr (.inl rfl)
  | flashWrStores _ off _ hc =>
    rw [storeCell, storeMirrored_tracker, advancePair_eq, setSr_tracker, setTracker_tracker]
    split
    · exact .inr (.inr ⟨off, hc, rfl⟩)
    · exact .inr (.inl rfl)
  | reset | detach => exact .inr (.inl rfl)

theorem Effect.trackerAligned {i : Instr} {s t : State} (h : Effect i s t)
    (hs : trackerAligned s) : trackerAligned t := by
  intro off ht
  rcases h.tracker_cases with hkept | hnone | ⟨off', hc, hsome⟩
  · exact hs off (hkept ▸ ht)
  · simp [hnone] at ht
  · obtain ⟨-, halign, -⟩ := programCheck_eq_none_iff.mp hc
    obtain rfl : off' = off := Option.some.inj (hsome.symm.trans ht)
    exact halign

/-! ### Soundness of banks and medium -/

/-- Banks and medium have the canonical form. -/
def MemoriesWf (s : State) : Prop := s.banks.wf ∧ s.medium.wf

theorem memoriesWf_of_content_eq {s t : State} (h : t.content = s.content) (hs : MemoriesWf s) :
    MemoriesWf t := by
  rw [MemoriesWf, content_banks h, content_medium h]
  exact hs

theorem memoriesWf_storeMirrored {s : State} {lo : Nat} {p : Payload} (hs : MemoriesWf s)
    (hb : lo + payloadSize p ≤ 0x100000) : MemoriesWf (storeMirrored s lo p) := by
  obtain ⟨hbanks, hmedium⟩ := hs
  exact ⟨storeMirrored_banks_wf s lo p hbanks hb, storeMirrored_medium_wf s lo p hmedium hb⟩

theorem Erases.memoriesWf {s t : State} (h : Erases s t) : MemoriesWf s → MemoriesWf t := by
  induction h with
  | registers h => exact memoriesWf_of_content_eq h
  | range s lo n hb => exact fun hs => memoriesWf_storeMirrored hs hb
  | trans _ _ hst htu => exact htu ∘ hst

/-- The cell of an aligned offset of the space lies inside banks and medium (rule R33). -/
theorem memoriesWf_storeCell {s : State} (off : FlashOffset) (data : Word)
    (halign : off.toNat % 4 = 0) (hs : MemoriesWf s) : MemoriesWf (storeCell s off.toNat data) := by
  obtain ⟨-, hb⟩ := physOffset_aligned s.swap off.toNat off.isLt halign
  exact memoriesWf_storeMirrored hs hb

theorem ContentEffect.memoriesWf {i : Instr} {s t : State} (h : ContentEffect i s t)
    (hs : MemoriesWf s) : MemoriesWf t := by
  cases h with
  | unchanged h => exact memoriesWf_of_content_eq h hs
  | erases _ _ h => exact h.memoriesWf hs
  | stores hc hu ht =>
    obtain ⟨-, halign, -⟩ := programCheck_eq_none_iff.mp hc
    exact memoriesWf_of_content_eq ht
      (memoriesWf_storeCell _ _ halign (memoriesWf_of_content_eq hu hs))
  | ends _ hb hm =>
    obtain ⟨-, hmedium⟩ := hs
    rw [MemoriesWf, hb, hm]
    exact ⟨wf_nil, hmedium⟩

/-! ### The medium operand of a decoded ATTACH -/

theorem checkedSub_ne_attach {i : Instr} (hi : ∀ m, i ≠ .attach m) (m : MediumArg) :
    checkedSub i ≠ .ok (.attach m) := by
  unfold checkedSub
  split
  · simpa using hi m
  · simp

theorem decodeKeyrSub_ne_attach (sub : Byte) (data : Word) (m : MediumArg) :
    decodeKeyrSub sub data ≠ .ok (.attach m) := by
  unfold decodeKeyrSub
  split_ifs <;> simp [checkedSub_ne_attach]

theorem decodeCrSub_ne_attach (sub : Byte) (data : Word) (m : MediumArg) :
    decodeCrSub sub data ≠ .ok (.attach m) := by
  unfold decodeCrSub
  split_ifs <;> simp [checkedSub_ne_attach]

theorem decodeRegWr_ne_attach (r : RawRequest) (m : MediumArg) :
    decodeRegWr r ≠ .ok (.attach m) := by
  unfold decodeRegWr
  split
  · simp
  · unfold decodeSub
    split_ifs <;> simp [decodeKeyrSub_ne_attach, decodeCrSub_ne_attach]

theorem decodeRegRd_ne_attach (r : RawRequest) (m : MediumArg) :
    decodeRegRd r ≠ .ok (.attach m) := by
  unfold decodeRegRd
  split
  · simp
  · split_ifs <;> simp

theorem decodeMemWr_ne_attach (r : RawRequest) (m : MediumArg) :
    decodeMemWr r ≠ .ok (.attach m) := by
  unfold decodeMemWr
  repeat' split
  all_goals simp

theorem decodeMemRd_ne_attach (r : RawRequest) (m : MediumArg) :
    decodeMemRd r ≠ .ok (.attach m) := by
  unfold decodeMemRd
  repeat' split
  all_goals simp

theorem decodeAttach_of_decodeEvt {r : RawRequest} {m : MediumArg}
    (h : decodeEvt r = .ok (.attach m)) : decodeAttach r = .ok (.attach m) := by
  unfold decodeEvt at h
  split_ifs at h
  all_goals simp_all

/-- Only an event's request is an ATTACH (rule R50). -/
theorem decodeAttach_of_decodeRaw {r : RawRequest} {m : MediumArg}
    (h : decodeRaw r = .ok (.attach m)) : decodeAttach r = .ok (.attach m) := by
  unfold decodeRaw at h
  split_ifs at h
  · exact absurd h (decodeRegWr_ne_attach r m)
  · exact absurd h (decodeRegRd_ne_attach r m)
  · exact absurd h (decodeMemWr_ne_attach r m)
  · exact absurd h (decodeMemRd_ne_attach r m)
  · exact decodeAttach_of_decodeEvt h

theorem canonicalCells_of_wellFormed {writable : Bool} {size : Nat} {cells : List Host.Cell}
    (h : (Instr.attach (.image writable size cells)).wellFormed = true) :
    canonicalCells size cells := by
  simp only [Instr.wellFormed, Bool.and_eq_true, decide_eq_true_eq] at h
  obtain ⟨-, hcells⟩ := h
  exact hcells

theorem wellFormed_of_decodeAttach {r : RawRequest} {i : Instr}
    (h : decodeAttach r = .ok i) : i.wellFormed = true := by
  unfold decodeAttach at h
  split_ifs at h
  · cases h; rfl
  · cases h; rfl
  · cases hc : decodeCells r.tail with
    | none => simp [hc] at h
    | some cells =>
      simp only [hc] at h
      split_ifs at h with hw
      cases h
      exact hw

theorem decode_eq_ok {bs : List Byte} {i : Instr} (h : decode bs = .ok i) :
    ∃ r, decodeRaw r = .ok i := by
  unfold decode at h
  split at h
  · exact ⟨_, h⟩
  · cases h

/-! ### Soundness of a state -/

theorem Effect.stateSound {i : Instr} {s t : State} (h : Effect i s t) (hs : StateSound s) :
    StateSound t := by
  obtain ⟨hbanks, hmedium⟩ :=
    (h.contentEffect rfl).memoriesWf ⟨hs.banksForm, hs.mediumForm⟩
  exact ⟨h.statusEffect.flagsOnly hs.status, h.trackerAligned hs.tracker, hbanks, hmedium⟩

/-- An ATTACH resets the registers and loads the banks from a canonical medium. -/
theorem stateSound_createInstance {s : State} (h : s.medium.wf) :
    StateSound (createInstance s).done where
  status := BitVec.zero_and
  tracker := fun _ ht => nomatch ht
  banksForm := h
  mediumForm := h

/-- The medium of an ATTACH that the decoder accepts is canonical. -/
theorem AttachSource.medium_wf {m : MediumArg} {s u : State} {bs : List Byte}
    (h : AttachSource m s u) (hd : decode bs = .ok (.attach m)) (hs : s.medium.wf) :
    u.medium.wf := by
  cases h with
  | same => exact hs
  | image _ cells =>
    obtain ⟨r, hr⟩ := decode_eq_ok hd
    obtain ⟨hrising, hcells⟩ := canonicalCells_of_wellFormed
      (wellFormed_of_decodeAttach (decodeAttach_of_decodeRaw hr))
    refine ⟨hrising, fun c hc => ?_⟩
    obtain ⟨hne, hlt, -⟩ := hcells c hc
    exact ⟨hne, hlt⟩

theorem exec_stateSound {i : Instr} {s t : State} {bs : List Byte} (hd : decode bs = .ok i)
    (hs : StateSound s) (h : exec i s = .next t) : StateSound t := by
  rcases exec_next_cases h with ⟨-, m, u, rfl, hu, rfl⟩ | ⟨-, u, r, hu, rfl⟩
  · exact stateSound_createInstance (hu.medium_wf hd hs.mediumForm)
  · obtain ⟨hsr, htracker, hbanks, hmedium⟩ := hu.stateSound hs
    exact ⟨hsr, htracker, hbanks, hmedium⟩

/-- Settles O36: each operation keeps the three parts of the invariant, and the decoder lets no
medium pass that is not canonical. -/
theorem stepKeepsTheStateSound : Obligations.StepKeepsTheStateSound := by
  intro s t hs h
  rcases step_next_cases h with ⟨-, rfl⟩ | ⟨r, rest, i, -, hd, hi⟩
  · exact hs
  · obtain ⟨hsr, htracker, hbanks, hmedium⟩ := hs
    exact exec_stateSound (s := s.takeRequest rest) hd ⟨hsr, htracker, hbanks, hmedium⟩ hi

end Sys2Proof.Machine
end

section
/-! PROOFS. What the medium can influence (rules R43, R154): every operation but ATTACH is blind to
the medium (`exec_resultBlind`), since a medium write is the only use it makes of it. -/

namespace Sys2Proof.Machine

/-! ### The state without its medium -/

/-- A medium write shows in the medium alone, stored or failed (rule R154). -/
theorem exceptMedium_mediumWrite (s : State) (moff : Nat) (p : Payload) :
    exceptMedium (mediumWrite s moff p) = exceptMedium s := by
  unfold mediumWrite
  split <;> rfl

theorem exceptMedium_storeMirrored (s : State) (moff : Nat) (p : Payload) :
    exceptMedium (storeMirrored s moff p) = (exceptMedium s).setBanks (s.banks.put moff p) :=
  exceptMedium_mediumWrite _ moff p

/-! ### Blind updates -/

/-- What `f` leaves outside the medium does not depend on the medium it starts from. -/
def MediumBlind (f : State → State) : Prop :=
  ∀ s, exceptMedium (f s) = exceptMedium (f (exceptMedium s))

theorem MediumBlind.id : MediumBlind fun s => s := fun _ => rfl

theorem MediumBlind.comp {g f : State → State} (hg : MediumBlind g) (hf : MediumBlind f) :
    MediumBlind fun s => g (f s) := fun s =>
  calc exceptMedium (g (f s)) = exceptMedium (g (exceptMedium (f s))) := hg _
    _ = exceptMedium (g (exceptMedium (f (exceptMedium s)))) := by rw [hf s]
    _ = exceptMedium (g (f (exceptMedium s))) := (hg _).symm

theorem MediumBlind.ite {f g : State → State} (b : Bool) (hf : MediumBlind f)
    (hg : MediumBlind g) : MediumBlind fun s => if b then f s else g s := by
  cases b
  · exact hg
  · exact hf

theorem MediumBlind.iteLocked {f g : State → State} (hf : MediumBlind f) (hg : MediumBlind g) :
    MediumBlind fun s => if s.locked then f s else g s := by
  intro s
  have hl : (exceptMedium s).locked = s.locked := rfl
  dsimp only
  rw [hl]
  cases s.locked
  · exact hg s
  · exact hf s

theorem mediumBlind_storeMirrored (moff : State → Nat) (p : Payload)
    (hm : ∀ s, moff (exceptMedium s) = moff s) :
    MediumBlind fun s => storeMirrored s (moff s) p := by
  intro s
  simp only [exceptMedium_storeMirrored, hm]
  rfl

/-! ### The operations' effects -/

theorem mediumBlind_keyrKey1 : MediumBlind keyrKey1 := fun s => by
  simp only [keyrKey1_eq]
  rfl

theorem mediumBlind_keyrKey2 : MediumBlind keyrKey2 := fun s => by
  simp only [keyrKey2_eq]
  rfl

theorem mediumBlind_keyrOther : MediumBlind keyrOther := fun _ => rfl

theorem mediumBlind_crLockStep : MediumBlind crLockStep := fun _ => rfl

theorem mediumBlind_crStoreStep (data : Word) : MediumBlind (crStoreStep · data) := fun _ => rfl

theorem mediumBlind_raiseViolation (cause : ViolationCause) :
    MediumBlind (raiseViolation · cause) := fun s => by
  simp only [raiseViolation_eq]
  rfl

theorem mediumBlind_crStrtLockedStep : MediumBlind crStrtLockedStep :=
  mediumBlind_raiseViolation .startLocked

theorem mediumBlind_endOfOperation : MediumBlind endOfOperation := fun _ => rfl

theorem mediumBlind_crPerStep : MediumBlind crPerStep :=
  mediumBlind_endOfOperation.comp
    (mediumBlind_storeMirrored (fun s => pageStart s.swap (bankIndex s.cr) (pageIndex s.cr))
      (.erased Config.pageSize) fun _ => rfl)

theorem mediumBlind_massErase (bank : Nat) : MediumBlind (massErase · bank) :=
  mediumBlind_storeMirrored (fun s => medOff (phys s.swap bank) 0) (.erased Config.bankSize)
    fun _ => rfl

theorem mediumBlind_crMer1Step : MediumBlind crMer1Step :=
  mediumBlind_endOfOperation.comp (mediumBlind_massErase 0)

theorem mediumBlind_crMer2Step : MediumBlind crMer2Step :=
  mediumBlind_endOfOperation.comp (mediumBlind_massErase 1)

/-- The three requests of a CR write, one after another (rule R80). -/
theorem mediumBlind_crDispatch (data : Word) : MediumBlind (crDispatch · data) :=
  have per := mediumBlind_crPerStep.ite (data.getLsbD Config.crPer) .id
  have mer1 := mediumBlind_crMer1Step.ite (data.getLsbD Config.crMer1) .id
  have mer2 := mediumBlind_crMer2Step.ite (data.getLsbD Config.crMer2) .id
  mer2.comp (mer1.comp per)

theorem mediumBlind_crWrite (data : Word) : MediumBlind (crWrite · data) :=
  have started := mediumBlind_crStrtLockedStep.iteLocked (mediumBlind_crDispatch data)
  have stored := (started.ite (data.getLsbD Config.crStrt) .id).comp (mediumBlind_crStoreStep data)
  mediumBlind_crLockStep.ite (data.getLsbD Config.crLock) stored

theorem mediumBlind_advancePair (off : FlashOffset) : MediumBlind (advancePair · off) := fun s => by
  simp only [advancePair_eq]
  rfl

theorem mediumBlind_storeCell (off : Nat) (v : Word) : MediumBlind (storeCell · off v) :=
  mediumBlind_storeMirrored (fun s => physOffset s.swap off) (.word v) fun _ => rfl

theorem mediumBlind_srWr (data : Word) :
    MediumBlind fun s =>
      let s1 := s.setSr (clearFlags s.sr data)
      if data.getLsbD Config.srBsy then s1.setCr (clearStrt s1.cr) else s1 :=
  MediumBlind.ite (data.getLsbD Config.srBsy) (fun _ => rfl) (fun _ => rfl)

/-! ### Blind operations -/

/-- A result with its next state, if any, taken without its medium. -/
def resultExceptMedium : Result → Result
  | .next t => .next (exceptMedium t)
  | .fault r => .fault r
  | .refused r => .refused r

theorem resultExceptMedium_eq_next {r : Result} {u : State}
    (h : resultExceptMedium r = .next u) : ∃ t, r = .next t ∧ exceptMedium t = u := by
  cases r with
  | next t => exact ⟨t, rfl, Host.Outcome.next.inj h⟩
  | fault => cases h
  | refused => cases h

/-- What `r` answers does not depend on the medium of the state, the answered medium aside. -/
def ResultBlind (r : State → Result) : Prop :=
  ∀ s, resultExceptMedium (r s) = resultExceptMedium (r (exceptMedium s))

theorem ResultBlind.onInstance {r : State → Result} (hr : ResultBlind r) :
    ResultBlind fun s => s.onInstance (r s) := by
  intro s
  cases hs : s.attached with
  | false =>
    dsimp only
    rw [onInstance_detached s _ hs, onInstance_detached (exceptMedium s) _ hs]
  | true =>
    dsimp only
    rw [onInstance_attached s _ hs, onInstance_attached (exceptMedium s) _ hs]
    exact hr s

theorem MediumBlind.next_done {f : State → State} (hf : MediumBlind f) :
    ResultBlind fun s => .next (f s).done := fun s =>
  congrArg (fun u : State => (.next u.done : Result)) (hf s)

/-- An operation without a field out answers a state that does not depend on the medium. -/
theorem MediumBlind.operation {f : State → State} (hf : MediumBlind f) :
    ResultBlind fun s => s.onInstance (.next (f s).done) :=
  hf.next_done.onInstance

/-- A read answers a value that does not depend on the medium. -/
theorem resultBlind_answer (v : State → Word) (hv : ∀ s, v (exceptMedium s) = v s) :
    ResultBlind fun s => s.onInstance (.next (s.answer (v s))) :=
  ResultBlind.onInstance (r := fun s => .next (s.answer (v s))) fun s => by
    dsimp only
    rw [hv s]
    rfl

theorem resultBlind_keyrWr (data : Word) : ResultBlind (execKeyrWr data) := by
  have hkey : MediumBlind fun s =>
      if data = Config.key1 then keyrKey1 s
      else if data = Config.key2 then keyrKey2 s else keyrOther s := by
    split
    · exact mediumBlind_keyrKey1
    · split
      · exact mediumBlind_keyrKey2
      · exact mediumBlind_keyrOther
  exact hkey.operation

/-- The five checks of a store read registers and banks alone (rule R101). -/
theorem programCheck_exceptMedium (s : State) (off : FlashOffset) :
    programCheck (exceptMedium s) off = programCheck s off := rfl

theorem resultBlind_flashWr (off : FlashOffset) (data : Word) :
    ResultBlind (execFlashWr off data) := by
  refine ResultBlind.onInstance fun s => ?_
  rw [programCheck_exceptMedium]
  cases programCheck s off with
  | some cause => exact (mediumBlind_raiseViolation cause).next_done s
  | none =>
    exact ((mediumBlind_storeCell off.toNat data).comp (mediumBlind_advancePair off)).next_done s

theorem resultBlind_flashRd (off : FlashOffset) (n : Width) : ResultBlind (execFlashRd off n) := by
  refine ResultBlind.onInstance fun s => ?_
  split
  · cases n <;> rfl
  · rfl

theorem exec_resultBlind (i : Instr) (hi : ∀ m, i ≠ .attach m) : ResultBlind (exec i) := by
  cases i with
  | attach m => exact absurd rfl (hi m)
  | acrRd | keyrRd | unkRd => exact resultBlind_answer (fun _ => 0#32) fun _ => rfl
  | srRd => exact resultBlind_answer State.sr fun _ => rfl
  | crRd => exact resultBlind_answer State.cr fun _ => rfl
  | flashRd off n => exact resultBlind_flashRd off n
  | acrWr | unkWr => exact MediumBlind.id.operation
  | keyrWr data => exact resultBlind_keyrWr data
  | keyrWrKey1 => exact mediumBlind_keyrKey1.operation
  | keyrWrKey2 => exact mediumBlind_keyrKey2.operation
  | keyrWrOther => exact mediumBlind_keyrOther.operation
  | srWr data => exact (mediumBlind_srWr data).operation
  | crWr data => exact (mediumBlind_crWrite data).operation
  | crWrLock => exact mediumBlind_crLockStep.operation
  | crWrStore data => exact (mediumBlind_crStoreStep data).operation
  | crWrStrtLocked => exact (mediumBlind_crStrtLockedStep.iteLocked .id).operation
  | crWrPer => exact (MediumBlind.id.iteLocked mediumBlind_crPerStep).operation
  | crWrMer1 => exact (MediumBlind.id.iteLocked mediumBlind_crMer1Step).operation
  | crWrMer2 => exact (MediumBlind.id.iteLocked mediumBlind_crMer2Step).operation
  | flashWr off data => exact resultBlind_flashWr off data
  | reset => exact MediumBlind.operation (f := initRegisters) fun _ => rfl
  | detach => exact MediumBlind.operation (f := discardInstance) fun _ => rfl

/-- Settles O47: both answers are, outside the medium, the answer on the common state without it. -/
theorem mediumIsInvisibleToTheCaller : Obligations.MediumIsInvisibleToTheCaller := by
  intro i s s' t hi hs ht
  have hblind := exec_resultBlind i hi
  have halike : resultExceptMedium (exec i s') = .next (exceptMedium t) :=
    calc resultExceptMedium (exec i s')
        = resultExceptMedium (exec i (exceptMedium s)) := by rw [hblind s', hs]
      _ = resultExceptMedium (exec i s) := (hblind s).symm
      _ = .next (exceptMedium t) := by rw [ht]; rfl
  obtain ⟨t', ht', hE⟩ := resultExceptMedium_eq_next halike
  exact ⟨t', ht', hE.symm⟩

end Sys2Proof.Machine
end

section
/-! PROOFS. The frame of the two read formats (rule R38). -/

namespace Sys2Proof.Machine

/-- An operation of a read format has no effect but its field out. -/
theorem Effect.eq_of_read {i : Instr} {s u : State} (h : Effect i s u)
    (hf : (rowOf i).format = .regRd ∨ (rowOf i).format = .memRd) : u = s := by
  cases h with
  | acrRd | keyrRd | srRd | crRd | unkRd | flashRd => rfl
  | _ => simp [rowOf] at hf

/-- Settles O10: ATTACH is of neither format, and on an instance only the field out is written. -/
theorem readFormatsChangeNothing : Obligations.ReadFormatsChangeNothing := by
  intro i s t hf h
  rcases exec_next_cases h with ⟨-, m, u, rfl, -, -⟩ | ⟨-, u, r, hu, rfl⟩
  · simp [rowOf] at hf
  · rw [hu.eq_of_read hf]

end Sys2Proof.Machine
end

section
/-! PROOFS. The translation of the flash space (rules R31 to R33) is its own inverse. -/

namespace Sys2Proof.Machine

theorem phys_phys (swap : Bool) {lb : Nat} (h : lb ≤ 1) : phys swap (phys swap lb) = lb := by
  cases swap
  · rfl
  · simp only [phys, if_true]
    omega

theorem logicalBank_le_one {off : Nat} (h : off < 0x100000) : logicalBank off ≤ 1 := by
  simp only [logicalBank, Config.bankSize]
  omega

theorem bankOffset_lt (off : Nat) : bankOffset off < Config.bankSize :=
  Nat.mod_lt off (by decide)

theorem logicalBank_medOff (pb : Nat) {boff : Nat} (h : boff < Config.bankSize) :
    logicalBank (medOff pb boff) = pb := by
  simp only [logicalBank, medOff, Config.bankSize] at h ⊢
  omega

theorem bankOffset_medOff (pb : Nat) {boff : Nat} (h : boff < Config.bankSize) :
    bankOffset (medOff pb boff) = boff := by
  simp only [bankOffset, medOff, Config.bankSize] at h ⊢
  omega

theorem medOff_logicalBank_bankOffset (off : Nat) :
    medOff (logicalBank off) (bankOffset off) = off :=
  Nat.div_add_mod' off Config.bankSize

/-- The translation swaps the two halves of the space or leaves both. -/
theorem physOffset_physOffset (swap : Bool) {off : Nat} (h : off < 0x100000) :
    physOffset swap (physOffset swap off) = off := by
  have hb := bankOffset_lt off
  calc physOffset swap (physOffset swap off)
      = medOff (phys swap (phys swap (logicalBank off))) (bankOffset off) := by
        simp only [physOffset, logicalBank_medOff _ hb, bankOffset_medOff _ hb]
    _ = off := by rw [phys_phys swap (logicalBank_le_one h), medOff_logicalBank_bankOffset]

/-- Settles O50: an offset's only preimage is its own translation. -/
theorem translationIsABijection : Obligations.TranslationIsABijection := by
  refine ⟨fun swap lb hlb => phys_phys swap hlb, fun swap a ha => ?_⟩
  refine ⟨physOffset swap a, ⟨physOffset_lt swap a ha, physOffset_physOffset swap ha⟩, ?_⟩
  rintro off ⟨hoff, rfl⟩
  exact (physOffset_physOffset swap hoff).symm

end Sys2Proof.Machine
end

section
/-! PROOFS. The decoder against the encoder (30_encoding.md rules R50 to R52, R60): what each format
accepts, said once; then every well-formed operation is read back from its request, and whatever is
read is well-formed. -/

namespace Sys2Proof

/-! ### The conditions of a row -/

theorem isUnknownOffset_iff {roff : Word} :
    isUnknownOffset roff = true ↔
      roff.toNat % 4 = 0 ∧ roff ≠ Config.acrOffset ∧ roff ≠ Config.keyrOffset ∧
        roff ≠ Config.srOffset ∧ roff ≠ Config.crOffset := by
  simp [isUnknownOffset, and_assoc]

theorem checkedSub_eq_ok_iff {i j : Instr} :
    checkedSub i = .ok j ↔ i.wellFormed = true ∧ i = j := by
  unfold checkedSub
  split <;> simp_all

theorem checkedSub_of_wellFormed {i : Instr} (h : i.wellFormed = true) : checkedSub i = .ok i :=
  checkedSub_eq_ok_iff.mpr ⟨h, rfl⟩

/-- The decoder accepts a register access that is aligned and 32 bits wide (decision D4). -/
theorem registerAccessError_eq_none_iff {r : RawRequest} :
    registerAccessError r = none ↔
      r.noMedium = true ∧ decodeWidth r.width = some .word ∧ r.sel.toNat % 4 = 0 := by
  unfold registerAccessError
  cases r.noMedium
  · simp
  · cases decodeWidth r.width with
    | none => simp
    | some n => cases n <;> simp

/-! ### Reading back a register request -/

theorem registerAccessError_regWr {roff : Word} (data : Word) (sub : Byte)
    (h : roff.toNat % 4 = 0) : registerAccessError (regWr roff data sub) = none :=
  registerAccessError_eq_none_iff.mpr ⟨rfl, rfl, h⟩

theorem registerAccessError_regRd {roff : Word} (h : roff.toNat % 4 = 0) :
    registerAccessError (regRd roff) = none :=
  registerAccessError_eq_none_iff.mpr ⟨rfl, rfl, h⟩

/-- A register write is told by its offset (rule R52). -/
theorem decodeRaw_regWr {roff : Word} (data : Word) (h : roff.toNat % 4 = 0) :
    decodeRaw (regWr roff data 0#8) =
      if roff = Config.acrOffset then .ok (.acrWr data)
      else if roff = Config.keyrOffset then .ok (.keyrWr data)
      else if roff = Config.srOffset then .ok (.srWr data)
      else if roff = Config.crOffset then .ok (.crWr data)
      else .ok (.unkWr roff data) := by
  change decodeRegWr (regWr roff data 0#8) = _
  rw [decodeRegWr, registerAccessError_regWr data 0#8 h]
  exact if_neg (not_not.mpr rfl)

/-- A register read is told by its offset (rule R52). -/
theorem decodeRaw_regRd {roff : Word} (h : roff.toNat % 4 = 0) :
    decodeRaw (regRd roff) =
      if roff = Config.acrOffset then .ok .acrRd
      else if roff = Config.keyrOffset then .ok .keyrRd
      else if roff = Config.srOffset then .ok .srRd
      else if roff = Config.crOffset then .ok .crRd
      else .ok (.unkRd roff) := by
  change decodeRegRd (regRd roff) = _
  rw [decodeRegRd, registerAccessError_regRd h]
  exact if_neg (not_not.mpr rfl)

/-- A register write that names a step is read by `decodeSub` (rules R61, R74). -/
theorem decodeRaw_regWr_sub {roff : Word} (data : Word) {sub : Byte} (h : roff.toNat % 4 = 0)
    (hsub : sub ≠ 0#8) : decodeRaw (regWr roff data sub) = decodeSub (regWr roff data sub) := by
  change decodeRegWr (regWr roff data sub) = _
  rw [decodeRegWr, registerAccessError_regWr data sub h]
  exact if_pos hsub

theorem decodeRaw_keyrSub (data : Word) {sub : Byte} (hsub : sub ≠ 0#8) :
    decodeRaw (regWr Config.keyrOffset data sub) = decodeKeyrSub sub data :=
  decodeRaw_regWr_sub data (by decide) hsub

theorem decodeRaw_crSub (data : Word) {sub : Byte} (hsub : sub ≠ 0#8) :
    decodeRaw (regWr Config.crOffset data sub) = decodeCrSub sub data :=
  decodeRaw_regWr_sub data (by decide) hsub

/-- Where the row of the step numbered `sub` is that of `i`, a well-formed `i` is read back. -/
theorem decodeRaw_crSub_checked {i : Instr} {sub : Byte} {data : Word} (hsub : sub ≠ 0#8)
    (hrow : decodeCrSub sub data = checkedSub i) (h : i.wellFormed = true) :
    decodeRaw (regWr Config.crOffset data sub) = .ok i := by
  rw [decodeRaw_crSub data hsub, hrow, checkedSub_of_wellFormed h]

/-! ### Reading back the operands of the other formats -/

@[simp] theorem decodeWidth_encodeWidth (n : Width) : decodeWidth (encodeWidth n) = some n := by
  cases n <;> rfl

/-- A 20-bit offset widened to `sel` is the same number, and narrows back to itself. -/
theorem toNat_setWidth_sel (off : FlashOffset) : (off.setWidth 32).toNat = off.toNat :=
  BitVec.toNat_setWidth_of_le (by decide)

theorem setWidth_setWidth_sel (off : FlashOffset) : (off.setWidth 32).setWidth 20 = off := by
  rw [BitVec.setWidth_setWidth_of_le off (by decide), BitVec.setWidth_eq]

/-- The three address bytes of a listed byte, low byte first, are its 24-bit address. -/
theorem address_of_bytes {a : Nat} (h : a < 0x1000000) :
    (BitVec.ofNat 8 a).toNat + 256 * (BitVec.ofNat 8 (a / 256)).toNat +
      65536 * (BitVec.ofNat 8 (a / 65536)).toNat = a := by
  simp only [BitVec.toNat_ofNat]
  omega

theorem decodeCells_encodeCells (cells : List Host.Cell) (h : ∀ c ∈ cells, c.1 < 0x1000000) :
    decodeCells (encodeCells cells) = some cells := by
  induction cells with
  | nil => rfl
  | cons c cells ih =>
    obtain ⟨hc, hcells⟩ := List.forall_mem_cons.mp h
    simp only [encodeCells, decodeCells, ih hcells, address_of_bytes hc, Option.map_some]

theorem wellFormed_image_iff {writable : Bool} {size : Nat} {cells : List Host.Cell} :
    (Instr.attach (.image writable size cells)).wellFormed = true ↔
      size < 2 ^ 32 ∧ canonicalCells size cells := by
  simp only [Instr.wellFormed, Bool.and_eq_true, decide_eq_true_eq]

/-- An image's kind byte is that of neither other medium. -/
theorem decodeAttach_image {readOnly : Byte} (size : Word) {tail : List Byte}
    {cells : List Host.Cell} (hflag : readOnly = 0#8 ∨ readOnly = 1#8)
    (hcells : decodeCells tail = some cells)
    (h : (Instr.attach (.image (readOnly == 0#8) size.toNat cells)).wellFormed = true) :
    decodeAttach (evt 0#32 2#8 readOnly size tail) =
      .ok (.attach (.image (readOnly == 0#8) size.toNat cells)) := by
  simp [decodeAttach, evt, hflag, hcells, h]

theorem decodeRaw_image {writable : Bool} {size : Nat} {cells : List Host.Cell}
    (h : (Instr.attach (.image writable size cells)).wellFormed = true) :
    decodeRaw (rawOf (.attach (.image writable size cells))) =
      .ok (.attach (.image writable size cells)) := by
  obtain ⟨hsize, -, hlisted⟩ := wellFormed_image_iff.mp h
  have haddress : ∀ c ∈ cells, c.1 < 0x1000000 := fun c hc => by
    obtain ⟨-, -, h⟩ := hlisted c hc
    exact h
  have hcells := decodeCells_encodeCells cells haddress
  have hnat : (BitVec.ofNat 32 size).toNat = size := Nat.mod_eq_of_lt hsize
  have hread : ∀ readOnly : Byte, readOnly = 0#8 ∨ readOnly = 1#8 → (readOnly == 0#8) = writable →
      decodeAttach (evt 0#32 2#8 readOnly (BitVec.ofNat 32 size) (encodeCells cells)) =
        .ok (.attach (.image writable size cells)) := by
    rintro readOnly hflag rfl
    have := decodeAttach_image (BitVec.ofNat 32 size) hflag hcells (by rwa [hnat])
    rwa [hnat] at this
  cases writable
  · exact hread 1#8 (.inr rfl) rfl
  · exact hread 0#8 (.inl rfl) rfl

/-- The offset of a flash access, as `sel` carries it, lies in the space (rule R31). -/
theorem sel_lt_flashSize (off : FlashOffset) : (off.setWidth 32).toNat < Config.flashSize := by
  rw [toNat_setWidth_sel]
  exact off.isLt

theorem decodeRaw_flashWr (off : FlashOffset) (data : Word) :
    decodeRaw (rawOf (.flashWr off data)) = .ok (.flashWr off data) := by
  change decodeMemWr (rawOf (.flashWr off data)) = _
  have hwidth : decodeWidth 0#8 = some .word := rfl
  simp only [decodeMemWr, rawOf, RawRequest.noMedium, hwidth, if_pos (sel_lt_flashSize off),
    setWidth_setWidth_sel]
  rfl

theorem decodeRaw_flashRd {off : FlashOffset} {n : Width}
    (h : (Instr.flashRd off n).wellFormed = true) :
    decodeRaw (rawOf (.flashRd off n)) = .ok (.flashRd off n) := by
  have hend : (off.setWidth 32).toNat + n.bytes ≤ Config.flashSize := by
    rw [toNat_setWidth_sel]
    exact of_decide_eq_true h
  change decodeMemRd (rawOf (.flashRd off n)) = _
  simp only [decodeMemRd, rawOf, RawRequest.noMedium, decodeWidth_encodeWidth,
    if_pos (sel_lt_flashSize off), if_pos hend, setWidth_setWidth_sel]
  rfl

/-- The parts of a well-formed operation's request are read back as that operation. -/
theorem decodeRaw_rawOf {i : Instr} (h : i.wellFormed = true) : decodeRaw (rawOf i) = .ok i := by
  cases i with
  | acrRd | keyrRd | srRd | crRd => exact decodeRaw_regRd (by decide)
  | unkRd roff =>
    obtain ⟨haligned, hacr, hkeyr, hsr, hcr⟩ := isUnknownOffset_iff.mp h
    simp only [rawOf, decodeRaw_regRd haligned, hacr, hkeyr, hsr, hcr, if_false]
  | acrWr data | keyrWr data | srWr data | crWr data => exact decodeRaw_regWr data (by decide)
  | unkWr roff data =>
    obtain ⟨haligned, hacr, hkeyr, hsr, hcr⟩ := isUnknownOffset_iff.mp h
    simp only [rawOf, decodeRaw_regWr data haligned, hacr, hkeyr, hsr, hcr, if_false]
  | keyrWrKey1 | keyrWrKey2 => exact decodeRaw_keyrSub _ (by decide)
  | keyrWrOther data =>
    exact (decodeRaw_keyrSub data (by decide)).trans (checkedSub_of_wellFormed h)
  | crWrLock | crWrStore | crWrStrtLocked | crWrPer | crWrMer1 | crWrMer2 =>
    exact decodeRaw_crSub_checked (by decide) rfl h
  | flashWr off data => exact decodeRaw_flashWr off data
  | flashRd off n => exact decodeRaw_flashRd h
  | attach m =>
    cases m with
    | same | absent => rfl
    | image writable size cells => exact decodeRaw_image h
  | reset | detach => rfl

/-- Settles O1: a request's bytes give back its parts, and the parts the operation. -/
theorem decodeInvertsEncode : Obligations.DecodeInvertsEncode := fun i h =>
  (decode_encodeRaw (rawOf i)).trans (decodeRaw_rawOf h)

/-! ### Whatever is read is well-formed -/

theorem wellFormed_of_checkedSub {i j : Instr} (h : checkedSub i = .ok j) :
    j.wellFormed = true := by
  obtain ⟨hi, rfl⟩ := checkedSub_eq_ok_iff.mp h
  exact hi

theorem wellFormed_of_decodeKeyrSub {sub : Byte} {data : Word} {i : Instr}
    (h : decodeKeyrSub sub data = .ok i) : i.wellFormed = true := by
  unfold decodeKeyrSub at h
  split_ifs at h
  · cases h; rfl
  · cases h; rfl
  · exact wellFormed_of_checkedSub h

theorem wellFormed_of_decodeCrSub {sub : Byte} {data : Word} {i : Instr}
    (h : decodeCrSub sub data = .ok i) : i.wellFormed = true := by
  unfold decodeCrSub at h
  split_ifs at h
  all_goals exact wellFormed_of_checkedSub h

theorem wellFormed_of_decodeSub {r : RawRequest} {i : Instr} (h : decodeSub r = .ok i) :
    i.wellFormed = true := by
  unfold decodeSub at h
  split_ifs at h
  · exact wellFormed_of_decodeKeyrSub h
  · exact wellFormed_of_decodeCrSub h

/-- What is left of the aligned offsets after the four named ones is unknown (rule R52). -/
theorem wellFormed_of_decodeRegWr {r : RawRequest} {i : Instr} (h : decodeRegWr r = .ok i) :
    i.wellFormed = true := by
  unfold decodeRegWr at h
  split at h
  · cases h
  next haccess =>
    obtain ⟨-, -, haligned⟩ := registerAccessError_eq_none_iff.mp haccess
    split_ifs at h with hsub hacr hkeyr hsr hcr
    · exact wellFormed_of_decodeSub h
    case neg => cases h; exact isUnknownOffset_iff.mpr ⟨haligned, hacr, hkeyr, hsr, hcr⟩
    all_goals cases h; rfl

theorem wellFormed_of_decodeRegRd {r : RawRequest} {i : Instr} (h : decodeRegRd r = .ok i) :
    i.wellFormed = true := by
  unfold decodeRegRd at h
  split at h
  · cases h
  next haccess =>
    obtain ⟨-, -, haligned⟩ := registerAccessError_eq_none_iff.mp haccess
    split_ifs at h with hsub hacr hkeyr hsr hcr
    case neg => cases h; exact isUnknownOffset_iff.mpr ⟨haligned, hacr, hkeyr, hsr, hcr⟩
    all_goals cases h; rfl

/-- A flash store has no condition beyond its offset's type. -/
theorem wellFormed_of_decodeMemWr {r : RawRequest} {i : Instr} (h : decodeMemWr r = .ok i) :
    i.wellFormed = true := by
  unfold decodeMemWr at h
  repeat' split at h
  all_goals cases h
  rfl

/-- A flash read ends inside the space: narrowing `sel` does not raise its offset (U19). -/
theorem wellFormed_of_decodeMemRd {r : RawRequest} {i : Instr} (h : decodeMemRd r = .ok i) :
    i.wellFormed = true := by
  unfold decodeMemRd at h
  repeat' split at h
  all_goals cases h
  next hend =>
    have hle : (r.sel.setWidth 20).toNat ≤ r.sel.toNat := by
      rw [BitVec.toNat_setWidth]
      exact Nat.mod_le _ _
    exact decide_eq_true (by omega)

theorem wellFormed_of_decodeEvt {r : RawRequest} {i : Instr} (h : decodeEvt r = .ok i) :
    i.wellFormed = true := by
  unfold decodeEvt at h
  split_ifs at h
  · exact Machine.wellFormed_of_decodeAttach h
  all_goals cases h; rfl

theorem wellFormed_of_decodeRaw {r : RawRequest} {i : Instr} (h : decodeRaw r = .ok i) :
    i.wellFormed = true := by
  unfold decodeRaw at h
  split_ifs at h
  · exact wellFormed_of_decodeRegWr h
  · exact wellFormed_of_decodeRegRd h
  · exact wellFormed_of_decodeMemWr h
  · exact wellFormed_of_decodeMemRd h
  · exact wellFormed_of_decodeEvt h

/-- Settles O2: each format's decoder tests what its rows ask of the operands. -/
theorem decodedInstructionsAreWellFormed : Obligations.DecodedInstructionsAreWellFormed := by
  intro bs i h
  obtain ⟨r, hr⟩ := Machine.decode_eq_ok h
  exact wellFormed_of_decodeRaw hr

/-! ### The keys of the test vectors -/

/-- Settles O3: seven fixed words, each decoded. -/
theorem specKeysDecode : Obligations.SpecKeysDecode := by
  refine ⟨?keyrWrite, ?crWrite, ?srWrite, ?crRead, ?flashStore, ?flashRead, ?reset⟩
  all_goals decide

end Sys2Proof
end

section
/-! PROOFS. What an operation answers on an instance, one equation each, and what follows from them:
every operation but ATTACH completes (rules R58, R70), and a CR or KEYR write is the sequence of its
sub-operations (rules R61, R74, R80). -/

namespace Sys2Proof.Machine

/-! ### The answers of single operations -/

section OnInstance
variable {s : State} (hs : s.attached = true)
include hs

theorem exec_keyrWr (data : Word) :
    exec (.keyrWr data) s = .next (if data = Config.key1 then keyrKey1 s
      else if data = Config.key2 then keyrKey2 s else keyrOther s).done :=
  onInstance_attached s _ hs

theorem exec_keyrWrKey1 : exec .keyrWrKey1 s = .next (keyrKey1 s).done :=
  onInstance_attached s _ hs

theorem exec_keyrWrKey2 : exec .keyrWrKey2 s = .next (keyrKey2 s).done :=
  onInstance_attached s _ hs

theorem exec_keyrWrOther (data : Word) : exec (.keyrWrOther data) s = .next (keyrOther s).done :=
  onInstance_attached s _ hs

theorem exec_crWr (data : Word) : exec (.crWr data) s = .next (crWrite s data).done :=
  onInstance_attached s _ hs

theorem exec_crWrLock (data : Word) : exec (.crWrLock data) s = .next (crLockStep s).done :=
  onInstance_attached s _ hs

theorem exec_crWrStore (data : Word) :
    exec (.crWrStore data) s = .next (crStoreStep s data).done :=
  onInstance_attached s _ hs

theorem exec_crWrStrtLocked (data : Word) :
    exec (.crWrStrtLocked data) s = .next (if s.locked then crStrtLockedStep s else s).done :=
  onInstance_attached s _ hs

theorem exec_crWrPer (data : Word) :
    exec (.crWrPer data) s = .next (if s.locked then s else crPerStep s).done :=
  onInstance_attached s _ hs

theorem exec_crWrMer1 (data : Word) :
    exec (.crWrMer1 data) s = .next (if s.locked then s else crMer1Step s).done :=
  onInstance_attached s _ hs

theorem exec_crWrMer2 (data : Word) :
    exec (.crWrMer2 data) s = .next (if s.locked then s else crMer2Step s).done :=
  onInstance_attached s _ hs

/-- A store that meets a failure condition raises its violation (rules R101, R102). -/
theorem exec_flashWr_of_fails {off : FlashOffset} (data : Word) {cause : ViolationCause}
    (hc : programCheck s off = some cause) :
    exec (.flashWr off data) s = .next (raiseViolation s cause).done := by
  simp only [exec, execFlashWr, onInstance_attached s _ hs, hc]

/-- A store that passes the checks advances the pair and stores its word (rules R103 to R105). -/
theorem exec_flashWr_of_passes {off : FlashOffset} (data : Word)
    (hc : programCheck s off = none) :
    exec (.flashWr off data) s = .next (storeCell (advancePair s off) off.toNat data).done := by
  simp only [exec, execFlashWr, onInstance_attached s _ hs, hc]

theorem exec_flashRd_inside {off : FlashOffset} {n : Width}
    (h : off.toNat + n.bytes ≤ Config.flashSize) :
    exec (.flashRd off n) s = .next (s.answer (memRead s off.toNat n)) := by
  simp only [exec, execFlashRd, onInstance_attached s _ hs, if_pos h]

/-- A flash store completes, whatever its checks find. -/
theorem exec_flashWr_completes (off : FlashOffset) (data : Word) :
    ∃ t, exec (.flashWr off data) s = .next t := by
  cases hc : programCheck s off with
  | some cause => exact ⟨_, exec_flashWr_of_fails hs data hc⟩
  | none => exact ⟨_, exec_flashWr_of_passes hs data hc⟩

/-- No operation of an instance is refused or faults (rules R58, R70, R150). -/
theorem exec_completes {i : Instr} (hw : i.wellFormed = true) (hi : ∀ m, i ≠ .attach m) :
    ∃ t, exec i s = .next t := by
  cases i with
  | attach m => exact absurd rfl (hi m)
  | flashWr off data => exact exec_flashWr_completes hs off data
  | flashRd off n => exact ⟨_, exec_flashRd_inside hs (of_decide_eq_true hw)⟩
  | _ => exact ⟨_, onInstance_attached s _ hs⟩

end OnInstance

/-! ### Existence after an operation -/

theorem Erases.attached_eq {s t : State} (h : Erases s t) : t.attached = s.attached := by
  induction h with
  | registers h => exact (content_eq_iff.mp h).1
  | range s lo n => exact storeMirrored_attached s lo (.erased n)
  | trans _ _ hst htu => exact htu.trans hst

theorem ContentEffect.attached_eq {i : Instr} {s t : State} (h : ContentEffect i s t)
    (hi : i ≠ .detach) : t.attached = s.attached := by
  cases h with
  | unchanged h => exact (content_eq_iff.mp h).1
  | erases _ _ h => exact h.attached_eq
  | @stores off data _ u _ _ hu ht =>
    calc t.attached = (storeCell u off.toNat data).attached := (content_eq_iff.mp ht).1
      _ = u.attached := storeMirrored_attached u _ _
      _ = s.attached := (content_eq_iff.mp hu).1
  | ends => exact absurd rfl hi

/-- On an instance, only DETACH ends it (rule R135). -/
theorem exec_attached_iff {i : Instr} {s t : State} (hs : s.attached = true)
    (h : exec i s = .next t) : t.attached = true ↔ i ≠ .detach := by
  rcases exec_next_cases h with ⟨hs', -⟩ | ⟨-, u, r, hu, rfl⟩
  · simp [hs] at hs'
  · constructor
    · intro ht hi
      simp [hu.attached_of_eq_detach hi] at ht
    · intro hi
      exact ((hu.contentEffect rfl).attached_eq hi).trans hs

/-- Settles O48: an operation on an instance has an answer, and existence is part of the content. -/
theorem everyOperationCompletes : Obligations.EveryOperationCompletes := by
  intro i s hs hw hi
  obtain ⟨t, ht⟩ := exec_completes hs hw hi
  exact ⟨t, ht, exec_attached_iff hs ht⟩

/-! ### The erase sub-operations while locked -/

/-- Settles O23: each erase step tests `LOCK` first. -/
theorem lockedEraseStepsDoNothing : Obligations.LockedEraseStepsDoNothing := by
  intro s data hs hlock
  have hl : s.locked = true := hlock
  rw [exec_crWrPer hs, exec_crWrMer1 hs, exec_crWrMer2 hs]
  simp only [if_pos hl]
  exact ⟨rfl, rfl, rfl⟩

/-! ### The field out takes no part in a write -/

theorem mediumWrite_done (s : State) (moff : Nat) (p : Payload) :
    mediumWrite s.done moff p = (mediumWrite s moff p).done := by
  simp only [mediumWrite, done_mediumReplies]
  split <;> rfl

theorem storeMirrored_done (s : State) (moff : Nat) (p : Payload) :
    storeMirrored s.done moff p = (storeMirrored s moff p).done :=
  mediumWrite_done (s.setBanks (s.banks.put moff p)) moff p

theorem crPerStep_done (s : State) : crPerStep s.done = (crPerStep s).done :=
  congrArg endOfOperation (storeMirrored_done s _ _)

theorem crMer1Step_done (s : State) : crMer1Step s.done = (crMer1Step s).done :=
  congrArg endOfOperation (storeMirrored_done s _ _)

theorem crMer2Step_done (s : State) : crMer2Step s.done = (crMer2Step s).done :=
  congrArg endOfOperation (storeMirrored_done s _ _)

/-! ### A CR or KEYR write as a sequence -/

/-- A request bit adds its operation to a sequence, or nothing (decision D11). -/
theorem execAll_request {i : Instr} {u : State} {f : State → State} (b : Bool)
    (rest : List Instr) (h : exec i u.done = .next (f u).done) :
    execAll ((if b then [i] else []) ++ rest) u.done =
      execAll rest (if b then f u else u).done := by
  cases b
  · rfl
  · exact execAll_cons_next rest h

/-- An instance with `LOCK` = 0: where the requests of a CR write are performed (rule R61). -/
structure OpenInstance (u : State) : Prop where
  attached : u.attached = true
  unlocked : u.locked = false

section OpenInstance
variable {u : State} (hu : OpenInstance u)
include hu

theorem OpenInstance.crPerStep : OpenInstance (crPerStep u) :=
  ⟨(crPerStep_attached u).trans hu.attached, (crPerStep_locked u).trans hu.unlocked⟩

theorem OpenInstance.crMer1Step : OpenInstance (crMer1Step u) :=
  ⟨(crMer1Step_attached u).trans hu.attached, (crMer1Step_locked u).trans hu.unlocked⟩

theorem OpenInstance.crStoreStep (data : Word) : OpenInstance (crStoreStep u data) :=
  ⟨hu.attached, (crStoreStep_locked u data).trans hu.unlocked⟩

theorem OpenInstance.request {f : State → State} (b : Bool) (hf : OpenInstance (f u)) :
    OpenInstance (if b then f u else u) := by
  cases b
  · exact hu
  · exact hf

theorem exec_crWrPer_done (data : Word) :
    exec (.crWrPer data) u.done = .next (crPerStep u).done := by
  rw [exec_crWrPer (s := u.done) hu.attached, done_locked, hu.unlocked, crPerStep_done]
  rfl

theorem exec_crWrMer1_done (data : Word) :
    exec (.crWrMer1 data) u.done = .next (crMer1Step u).done := by
  rw [exec_crWrMer1 (s := u.done) hu.attached, done_locked, hu.unlocked, crMer1Step_done]
  rfl

theorem exec_crWrMer2_done (data : Word) :
    exec (.crWrMer2 data) u.done = .next (crMer2Step u).done := by
  rw [exec_crWrMer2 (s := u.done) hu.attached, done_locked, hu.unlocked, crMer2Step_done]
  rfl

/-- The requests of a CR write, in the order of R61, do what the dispatcher does. -/
theorem execAll_requests (data : Word) :
    execAll ((if data.getLsbD Config.crPer then [.crWrPer data] else []) ++
        (if data.getLsbD Config.crMer1 then [.crWrMer1 data] else []) ++
        (if data.getLsbD Config.crMer2 then [.crWrMer2 data] else [])) u.done =
      .next (crDispatch u data).done := by
  have hu1 := hu.request (data.getLsbD Config.crPer) hu.crPerStep
  have hu2 := hu1.request (data.getLsbD Config.crMer1) hu1.crMer1Step
  rw [List.append_assoc, execAll_request _ _ (exec_crWrPer_done hu data),
    execAll_request _ _ (exec_crWrMer1_done hu1 data),
    ← List.append_nil (if data.getLsbD Config.crMer2 then _ else _),
    execAll_request _ _ (exec_crWrMer2_done hu2 data)]
  rfl

end OpenInstance

/-- The sub-operations of R61 leave what the CR write of R80 leaves. -/
theorem execAll_crSubOperations {s : State} (hs : s.attached = true) (data : Word) :
    execAll (crSubOperations s.locked data) s = .next (crWrite s data).done := by
  have hstore := exec_crWrStore hs data
  simp only [crSubOperations, crWrite, crStoreStep_locked]
  cases data.getLsbD Config.crLock with
  | true => exact execAll_cons_next [] (exec_crWrLock hs data)
  | false =>
    refine (execAll_cons_next _ hstore).trans ?_
    cases data.getLsbD Config.crStrt with
    | false => rfl
    | true =>
      cases hl : s.locked with
      | false => exact execAll_requests (OpenInstance.crStoreStep ⟨hs, hl⟩ data) data
      | true =>
        have hviolation := exec_crWrStrtLocked (s := (crStoreStep s data).done) hs data
        rw [done_locked, crStoreStep_locked, hl] at hviolation
        exact execAll_cons_next [] hviolation

theorem exec_keyrSubOperation {s : State} (hs : s.attached = true) (data : Word) :
    exec (keyrSubOperation data) s = exec (.keyrWr data) s := by
  rw [exec_keyrWr hs, keyrSubOperation]
  split_ifs
  · exact exec_keyrWrKey1 hs
  · exact exec_keyrWrKey2 hs
  · exact exec_keyrWrOther hs data

/-- Settles O19: each sub-operation of a CR write starts from the state the one before it left. -/
theorem writesPerformTheirSubOperations : Obligations.WritesPerformTheirSubOperations := by
  intro s data hs
  constructor
  · rw [exec_crWr hs, execAll_crSubOperations hs]
  · have hsub := (exec_keyrSubOperation hs data).trans (exec_keyrWr hs data)
    rw [execAll_cons_next [] hsub, exec_keyrWr hs, execAll_nil]

end Sys2Proof.Machine
end

section
/-! PROOFS. What one write to banks and medium leaves (rules R43, R44), read back byte by byte and
cell by cell, and the two written forms made of such writes: the page erase by its CR word (rules
R53, R84) and PROGRAM_DW (rule R62). -/

namespace Sys2Proof.Machine

/-! ### One write to banks and medium -/

theorem writesExactly_storeMirrored (s : State) (lo : Nat) (p : Payload) :
    writesExactly s (storeMirrored s lo p) lo (payloadSize p) (payloadByte p) := by
  refine ⟨fun a => ?banks, fun a ha => ?outside, fun hreply a hlo ha => ?stored⟩
  case banks => rw [storeMirrored_banks, read_put]
  case outside => exact (storeMirrored_read_outside s lo p a ha).2
  case stored =>
    have hr : nextReply s = .stored := by
      unfold nextReply
      cases hm : s.mediumReplies with
      | nil => rfl
      | cons r rest => cases r <;> simp_all
    rw [(storeMirrored_stored s lo p hr).1, read_put, if_pos ⟨hlo, ha⟩]

/-- Registers, waiting requests and field out take no part in what a write leaves. -/
theorem writesExactly_of_content {s s' t t' : State} {lo n : Nat} {new : Nat → Byte}
    (hs : s'.content = s.content) (ht : t'.content = t.content)
    (h : writesExactly s t lo n new) : writesExactly s' t' lo n new := by
  obtain ⟨-, -, hsb, hsm, hsr⟩ := content_eq_iff.mp hs
  obtain ⟨-, -, htb, htm, -⟩ := content_eq_iff.mp ht
  simpa only [writesExactly, hsb, hsm, hsr, htb, htm] using h

/-! ### The word `CR_PER(b, p)` (rule R53) -/

theorem getLsbD_crPerWord (b p : Nat) {i : Nat} (hi : i < 32) :
    (crPerWord b p).getLsbD i =
      ((0x00010002#32).getLsbD i || (decide (11 ≤ i) && b.testBit (i - 11)) ||
        (decide (3 ≤ i) && p.testBit (i - 3))) := by
  have hshift : ∀ n k : Nat, (BitVec.ofNat 32 n <<< k).getLsbD i =
      (decide (k ≤ i) && n.testBit (i - k)) := by
    intro n k
    rw [BitVec.getLsbD_shiftLeft, BitVec.getLsbD_ofNat]
    simp [hi, show i - k < 32 by omega, ← decide_not]
  simp only [crPerWord, BitVec.getLsbD_or, hshift]

theorem testBit_of_le {n k j : Nat} (hn : n < 2 ^ k) (hj : k ≤ j) : n.testBit j = false :=
  Nat.testBit_lt_two_pow (hn.trans_le (Nat.pow_le_pow_right (by decide) hj))

/-- Outside the page field and the bank bit the word is the pattern of a page erase. -/
theorem getLsbD_crPerWord_fixed {b p : Nat} (hb : b ≤ 1) (hp : p < 256) {i : Nat} (hi : i < 32)
    (hfields : i < 3 ∨ 11 < i) : (crPerWord b p).getLsbD i = (0x00010002#32).getLsbD i := by
  rw [getLsbD_crPerWord b p hi]
  rcases hfields with hlow | hhigh
  · simp [show ¬ 11 ≤ i by omega, show ¬ 3 ≤ i by omega]
  · rw [testBit_of_le (k := 1) (by omega) (by omega), testBit_of_le (k := 8) hp (by omega)]
    simp

theorem bankIndex_eq_toNat (cr : Word) : bankIndex cr = (cr.getLsbD 11).toNat := by
  rw [BitVec.getLsbD, Nat.toNat_testBit, bankIndex, BitVec.extractLsb'_toNat,
    Nat.shiftRight_eq_div_pow]

theorem bankIndex_crPerWord {b p : Nat} (hb : b ≤ 1) (hp : p < 256) :
    bankIndex (crPerWord b p) = b := by
  rw [bankIndex_eq_toNat, getLsbD_crPerWord b p (by decide), testBit_of_le (k := 8) hp (by decide)]
  interval_cases b <;> rfl

/-- The page field begins at bit 3 and ends below the bank bit. -/
theorem pageIndex_crPerWord (b : Nat) {p : Nat} (hp : p < 256) :
    pageIndex (crPerWord b p) = p := by
  refine Nat.eq_of_testBit_eq fun j => ?_
  by_cases hj : j < 8
  · rw [pageIndex, BitVec.testBit_toNat, BitVec.getLsbD_extractLsb',
      getLsbD_crPerWord b p (by simp; omega)]
    interval_cases j <;> simp
  · rw [testBit_of_le (k := 8) hp (by omega),
      testBit_of_le (k := 8) (pageIndex_lt _) (by omega)]

/-! ### The CR write `CR_PER(b, p)` -/

/-- With `LOCK` = 0 and bit 31 not written, the store takes the whole word (rule R82). -/
theorem storeCr_of_unlocked {cr data : Word} (hcr : cr.getLsbD 31 = false)
    (hdata : data.getLsbD 31 = false) : storeCr cr data = data := by
  refine BitVec.eq_of_getLsbD_eq fun i hi => ?_
  simp only [storeCr, BitVec.getLsbD_or, BitVec.getLsbD_and, BitVec.getLsbD_not]
  interval_cases i <;> simp_all

/-- A CR write that asks for a page erase alone, while unlocked (rules R80, R84). -/
theorem crWrite_of_pageRequest {s : State} {data : Word} (hs : s.locked = false)
    (hlock : data.getLsbD 31 = false) (hstrt : data.getLsbD 16 = true)
    (hper : data.getLsbD 1 = true) (hmer1 : data.getLsbD 2 = false)
    (hmer2 : data.getLsbD 15 = false) :
    crWrite s data = crPerStep (s.setCr data) := by
  have hstore : crStoreStep s data = s.setCr data := by
    rw [crStoreStep, storeCr_of_unlocked hs hlock]
  have hl : (s.setCr data).locked = false := hlock
  simp only [crWrite, crDispatch, hstore, hl, hlock, hstrt, hper, hmer1, hmer2, if_true, if_false,
    Bool.false_eq_true]

/-- What a page erase leaves of the rest of the state. -/
theorem keepsRest_crPerStep (s : State) : keepsRest s (crPerStep s).done := by
  refine ⟨crPerStep_attached s, crPerStep_stage s, crPerStep_swap s, crPerStep_requests s, rfl, ?_⟩
  exact storeMirrored_mediumReplies s _ _

theorem writesExactly_crPerStep (s : State) :
    writesExactly s (crPerStep s) (pageStart s.swap (bankIndex s.cr) (pageIndex s.cr)) 2048
      (fun _ => 0xFF#8) :=
  writesExactly_storeMirrored s _ (.erased 2048)

/-- Settles O21: the word asks for a page erase alone, and its fields are `b` and `p`. -/
theorem pageEraseRequestNamesItsPage : Obligations.PageEraseRequestNamesItsPage := by
  intro s b p hs hl hb hp
  have hfixed := fun {i} => getLsbD_crPerWord_fixed hb hp (i := i)
  have hwrite : crWrite s (crPerWord b p) = crPerStep (s.setCr (crPerWord b p)) :=
    crWrite_of_pageRequest hl (hfixed (by decide) (by decide)) (hfixed (by decide) (by decide))
      (hfixed (by decide) (by decide)) (hfixed (by decide) (by decide))
      (hfixed (by decide) (by decide))
  have hrange := writesExactly_crPerStep (s.setCr (crPerWord b p))
  rw [setCr_cr, bankIndex_crPerWord hb hp, pageIndex_crPerWord b hp] at hrange
  refine ⟨(crPerStep (s.setCr (crPerWord b p))).done, by rw [exec_crWr hs, hwrite],
    keepsRest_crPerStep (s.setCr (crPerWord b p)), crPerStep_cr _, crPerStep_tracker _,
    crPerStep_sr _, ?_⟩
  exact writesExactly_of_content rfl rfl hrange

end Sys2Proof.Machine
end

section
/-! PROOFS. The cells of the flash space after a store (rules R44, R105), and PROGRAM_DW as two
stores (rule R62): inside the space, and where `A + 4` leaves it. -/

namespace Sys2Proof.Machine

/-! ### A word of byte storage after a write -/

theorem readWord_put_word (m : Memory) (lo : Nat) (v : Word) :
    (m.put lo (.word v)).readWord lo = v := by
  simp [Memory.readWord, read_put, payloadSize, payloadByte]

theorem readWord_put_outside (m : Memory) {lo a : Nat} (p : Payload)
    (h : a + 4 ≤ lo ∨ lo + payloadSize p ≤ a) : (m.put lo p).readWord a = m.readWord a := by
  have hread : ∀ k, k < 4 → (m.put lo p).read (a + k) = m.read (a + k) := fun k hk => by
    rw [read_put, if_neg (by omega)]
  simp only [Memory.readWord, hread 1 (by decide), hread 2 (by decide), hread 3 (by decide)]
  rw [show (m.put lo p).read a = m.read a from hread 0 (by decide)]

/-! ### A cell of the flash space after a store -/

theorem cellAt_of_content {s t : State} (h : t.content = s.content) (o : Nat) :
    cellAt t o = cellAt s o := by
  simp only [cellAt, bankWord, content_swap h, content_banks h]

/-- Two aligned offsets of the space have places that do not overlap (rules R31 to R33). -/
theorem physOffset_disjoint (swap : Bool) {o off : Nat} (ho : o < 0x100000)
    (hoff : off < 0x100000) (hoa : o % 4 = 0) (hoffa : off % 4 = 0) (hne : o ≠ off) :
    physOffset swap o + 4 ≤ physOffset swap off ∨ physOffset swap off + 4 ≤ physOffset swap o := by
  have hplace : physOffset swap o ≠ physOffset swap off := fun h => hne <| by
    rw [← physOffset_physOffset swap ho, h, physOffset_physOffset swap hoff]
  obtain ⟨ha, -⟩ := physOffset_aligned swap o ho hoa
  obtain ⟨hb, -⟩ := physOffset_aligned swap off hoff hoffa
  omega

theorem cellAt_storeCell_same (s : State) {off : Nat} (v : Word) (ha : off % 4 = 0) :
    cellAt (storeCell s off v) off = v := by
  rw [cellAt_eq _ off ha, storeCell, storeMirrored_swap, storeMirrored_banks, readWord_put_word]

theorem cellAt_storeCell_other (s : State) {o off : Nat} (v : Word) (ho : o < 0x100000)
    (hoff : off < 0x100000) (hoa : o % 4 = 0) (hoffa : off % 4 = 0) (hne : o ≠ off) :
    cellAt (storeCell s off v) o = cellAt s o := by
  rw [cellAt_eq _ o hoa, cellAt_eq _ o hoa, storeCell, storeMirrored_swap, storeMirrored_banks,
    readWord_put_outside _ _ (physOffset_disjoint s.swap ho hoff hoa hoffa hne)]

/-! ### A store that passes its checks -/

/-- What a store leaves outside the pair: its cell written, every other cell as before, and beside
the tracker and `SR` the registers as before (rule R105). -/
structure StoresCell (s t : State) (off : FlashOffset) (v : Word) : Prop where
  attached : t.attached = s.attached
  cr : t.cr = s.cr
  stage : t.stage = s.stage
  swap : t.swap = s.swap
  cell : cellAt t off.toNat = v
  others : ∀ o, o < 0x100000 → o % 4 = 0 → o ≠ off.toNat → cellAt t o = cellAt s o

theorem storesCell_storeCell_advancePair (s : State) {off : FlashOffset} (v : Word)
    (ha : off.toNat % 4 = 0) :
    StoresCell s (storeCell (advancePair s off) off.toNat v).done off v where
  attached := by simp [storeCell, advancePair_eq]
  cr := by simp [storeCell, advancePair_eq]
  stage := by simp [storeCell, advancePair_eq]
  swap := by simp [storeCell, advancePair_eq]
  cell := cellAt_storeCell_same (advancePair s off) v ha
  others o ho hoa hne :=
    (cellAt_storeCell_other (advancePair s off) v ho off.isLt hoa ha hne).trans
      (cellAt_of_content (advancePair_content s off) o)

section Store
variable {s : State} {off : FlashOffset} (hs : s.attached = true)
  (hc : programCheck s off = none)
include hs hc

/-- The first word of a pair (rule R103). -/
theorem exec_flashWr_first (v : Word) (ht : s.tracker = none) :
    ∃ t, exec (.flashWr off v) s = .next t ∧ StoresCell s t off v ∧
      t.tracker = some off ∧ t.sr = setBsy s.sr := by
  obtain ⟨-, ha, -⟩ := programCheck_eq_none_iff.mp hc
  refine ⟨_, exec_flashWr_of_passes hs v hc, storesCell_storeCell_advancePair s v ha, ?_, ?_⟩
  all_goals simp [storeCell, advancePair_eq, ht]

/-- The second word of a pair (rule R104). -/
theorem exec_flashWr_second (v : Word) {p : FlashOffset} (ht : s.tracker = some p) :
    ∃ t, exec (.flashWr off v) s = .next t ∧ StoresCell s t off v ∧
      t.tracker = none ∧ t.sr = setEop (clearBsy s.sr) := by
  obtain ⟨-, ha, -⟩ := programCheck_eq_none_iff.mp hc
  refine ⟨_, exec_flashWr_of_passes hs v hc, storesCell_storeCell_advancePair s v ha, ?_, ?_⟩
  all_goals simp [storeCell, advancePair_eq, ht]

end Store

/-! ### PROGRAM_DW -/

theorem clearBsy_setBsy (sr : Word) : clearBsy (setBsy sr) = clearBsy sr := by
  refine BitVec.eq_of_getLsbD_eq fun i hi => ?_
  simp only [clearBsy, setBsy, BitVec.getLsbD_and, BitVec.getLsbD_or, BitVec.getLsbD_not]
  cases (Config.srBsyMask).getLsbD i <;> simp

/-- Settles O27: the first store sets the tracker that the second one asks for, and leaves the
second cell erased. -/
theorem programDoubleWord : Obligations.ProgramDoubleWord := by
  intro s off lo hi hs hl hpg ht ha hnext hlo hhi
  obtain ⟨off', hoff'⟩ : ∃ off' : FlashOffset, off'.toNat = off.toNat + 4 :=
    ⟨BitVec.ofNat 20 (off.toNat + 4), Nat.mod_eq_of_lt hnext⟩
  have hseq : pseudoProgramDw (0x08000000 + off.toNat) lo hi =
      [.ok (.flashWr off lo), .ok (.flashWr off' hi)] := by
    rw [pseudoProgramDw, Nat.add_assoc, ← hoff', storeAt_add, storeAt_add]
  have hcheck : programCheck s off = none :=
    programCheck_eq_none_iff.mpr ⟨hl, ha, hpg, by rw [ht]; rfl, hlo⟩
  obtain ⟨u, hu, hfirst, hutracker, husr⟩ := exec_flashWr_first hs hcheck lo ht
  have hcell : cellAt u off'.toNat = 0xFFFFFFFF#32 := by
    rw [hfirst.others _ off'.isLt (by omega) (by omega), hoff', hhi]
  have hcheck' : programCheck u off' = none := by
    refine programCheck_eq_none_iff.mpr ⟨?_, by omega, ?_, ?_, hcell⟩
    · rw [State.locked, hfirst.cr]; exact hl
    · rw [State.programEnabled, hfirst.cr]; exact hpg
    · rw [hutracker]; exact beq_iff_eq.mpr hoff'
  obtain ⟨t, ht', hsecond, httracker, htsr⟩ :=
    exec_flashWr_second (hfirst.attached.trans hs) hcheck' hi hutracker
  refine ⟨t, ?run, ?cell, ?cell', httracker, hsecond.cr.trans hfirst.cr,
    hsecond.stage.trans hfirst.stage, hsecond.swap.trans hfirst.swap, ?sr, ?others⟩
  case run => rw [hseq, performAll_cons_next _ hu, performAll_cons_next _ ht', performAll_nil]
  case cell => rw [hsecond.others _ off.isLt ha (by omega), hfirst.cell]
  case cell' => rw [← hoff', hsecond.cell]
  case sr => rw [htsr, husr, clearBsy_setBsy]; rfl
  case others =>
    intro o ho hoa hne hne'
    rw [hsecond.others o ho hoa (hoff' ▸ hne'), hfirst.others o ho hoa hne]

/-- `st.w` inside the space is the store at its offset (rule R57). -/
theorem storeAt_inside {address : Nat} (v : Word) (hlo : 0x08000000 ≤ address)
    (hhi : address < 0x08100000) :
    storeAt address v = .ok (.flashWr (BitVec.ofNat 20 (address - 0x08000000)) v) := by
  have hin : Config.flashBase ≤ address ∧ address < Config.flashBase + Config.flashSize :=
    ⟨hlo, hhi⟩
  simp only [storeAt, flashOffsetOf, if_pos hin]

/-- Settles O28: the second store is outside the space, and the first, where it is inside,
completes. -/
theorem programDoubleWordStopsAtTheEnd : Obligations.ProgramDoubleWordStopsAtTheEnd := by
  intro s address lo hi hs ha
  have hsecond := storeAt_outside (address + 4) hi (.inr (by omega))
  by_cases hin : address < 0x08100000
  · have hfirst := storeAt_inside lo (by omega) hin
    obtain ⟨t, ht⟩ :=
      exec_flashWr_completes hs (BitVec.ofNat 20 (address - 0x08000000)) lo
    refine ⟨?_, by rw [if_pos hin, hfirst]⟩
    rw [pseudoProgramDw, hfirst, hsecond, performAll_cons_next _ ht, performAll_cons_error]
  · have hfirst := storeAt_outside address lo (.inr (by omega))
    refine ⟨?_, by rw [if_neg hin, hfirst]⟩
    rw [pseudoProgramDw, hfirst, performAll_cons_error]

end Sys2Proof.Machine
end

section
/-! PROOFS. The bits of the words of `SR` and `CR` after a register write, the answers of the
register operations on an instance, and the statements about them: the reads and the placeholders
(rules R71 to R73, R79, R87 to R89) and the SR write (rule R78). -/

namespace Sys2Proof.Machine

/-! ### Bits of the written registers -/

theorem getLsbD_clearFlags (sr data : Word) {i : Nat} (hi : i < 32) :
    (clearFlags sr data).getLsbD i = (sr.getLsbD i && !data.getLsbD i) := by
  simp [clearFlags, hi]

theorem getLsbD_crStrtMask (i : Nat) : Config.crStrtMask.getLsbD i = decide (i = 16) := by
  rw [show Config.crStrtMask = BitVec.twoPow 32 16 by decide, BitVec.getLsbD_twoPow]
  simp [eq_comm]

theorem getLsbD_crLockMask (i : Nat) : Config.crLockMask.getLsbD i = decide (i = 31) := by
  rw [show Config.crLockMask = BitVec.twoPow 32 31 by decide, BitVec.getLsbD_twoPow]
  simp [eq_comm]

theorem getLsbD_clearStrt (cr : Word) {i : Nat} (hi : i < 32) :
    (clearStrt cr).getLsbD i = (cr.getLsbD i && !decide (i = 16)) := by
  rw [clearStrt, BitVec.getLsbD_and, BitVec.getLsbD_not, getLsbD_crStrtMask]
  simp [hi]

/-- The store takes every bit but `LOCK` from the written word (rule R82). -/
theorem getLsbD_storeCr (cr data : Word) {i : Nat} (hi : i < 32) :
    (storeCr cr data).getLsbD i = if i = 31 then cr.getLsbD 31 else data.getLsbD i := by
  simp only [storeCr, BitVec.getLsbD_or, BitVec.getLsbD_and, BitVec.getLsbD_not,
    getLsbD_crLockMask]
  split
  · subst i; simp
  · simp [*]

/-- With `LOCK` = 1 the store adds `LOCK` to the word (rule R82). -/
theorem storeCr_of_locked {cr : Word} (data : Word) (hcr : cr.getLsbD 31 = true) :
    storeCr cr data = 0x80000000#32 ||| data := by
  refine BitVec.eq_of_getLsbD_eq fun i hi => ?_
  rw [getLsbD_storeCr cr data hi, BitVec.getLsbD_or, getLsbD_crLockMask]
  split
  · subst i; simp [hcr]
  · simp [*]

/-! ### The answers of the register operations -/

section OnInstance
variable {s : State} (hs : s.attached = true)
include hs

theorem exec_acrRd : exec .acrRd s = .next (s.answer 0x00000000#32) :=
  onInstance_attached s _ hs

theorem exec_acrWr (data : Word) : exec (.acrWr data) s = .next s.done :=
  onInstance_attached s _ hs

theorem exec_keyrRd : exec .keyrRd s = .next (s.answer 0x00000000#32) :=
  onInstance_attached s _ hs

theorem exec_srRd : exec .srRd s = .next (s.answer s.sr) :=
  onInstance_attached s _ hs

theorem exec_crRd : exec .crRd s = .next (s.answer s.cr) :=
  onInstance_attached s _ hs

theorem exec_unkRd (roff : Word) : exec (.unkRd roff) s = .next (s.answer 0x00000000#32) :=
  onInstance_attached s _ hs

theorem exec_unkWr (roff data : Word) : exec (.unkWr roff data) s = .next s.done :=
  onInstance_attached s _ hs

theorem exec_srWr (data : Word) :
    exec (.srWr data) s = .next ((s.setSr (clearFlags s.sr data)).setCr
      (if data.getLsbD 16 then clearStrt s.cr else s.cr)).done := by
  refine (onInstance_attached s _ hs).trans ?_
  cases hb : data.getLsbD Config.srBsy <;> rfl

end OnInstance

/-! ### Reads and placeholders -/

/-- Settles O5: the request of `ACR_RD`, and its answer on an instance. -/
theorem acrReadReturnsZero : Obligations.AcrReadReturnsZero :=
  ⟨rfl, rfl, fun _ hs => exec_acrRd hs⟩

/-- Settles O6: the request of `CR_RD`, and its answer on an instance. -/
theorem controlReadsAsStored : Obligations.ControlReadsAsStored :=
  ⟨rfl, rfl, fun _ hs => exec_crRd hs⟩

/-- Settles O7: the request of `SR_RD`, and its answer on an instance. -/
theorem statusReadsAsStored : Obligations.StatusReadsAsStored :=
  ⟨rfl, rfl, fun _ hs => exec_srRd hs⟩

/-- Settles O8: both reads answer 0. -/
theorem keyrAndUnknownReadZero : Obligations.KeyrAndUnknownReadZero :=
  fun _ roff hs _ => ⟨exec_keyrRd hs, exec_unkRd hs roff⟩

/-- Settles O9: both writes are dropped. -/
theorem acrAndUnknownWritesChangeNothing : Obligations.AcrAndUnknownWritesChangeNothing :=
  fun _ roff data hs _ => ⟨exec_acrWr hs data, exec_unkWr hs roff data⟩

/-! ### The SR write -/

/-- Settles O11: `SR` loses the written bits, and `CR` at most its bit 16. -/
theorem statusWriteClearsWrittenBits : Obligations.StatusWriteClearsWrittenBits := by
  intro s data hs
  refine ⟨_, exec_srWr hs data, fun i hi => getLsbD_clearFlags s.sr data hi, fun i hi => ?_, rfl⟩
  rw [done_cr, setCr_cr]
  cases data.getLsbD 16 with
  | true => rw [Bool.and_true]; exact getLsbD_clearStrt s.cr hi
  | false => rw [Bool.and_false, Bool.not_false, Bool.and_true]; rfl

end Sys2Proof.Machine
end

section
/-! PROOFS. The effects of a CR write by the bits of the written word (rules R80 to R83), and of the
erase sub-operations (rules R84 to R86). -/

namespace Sys2Proof.Machine

/-! ### The branches of a CR write -/

section Branches
variable (s : State) {data : Word}

theorem crWrite_of_lock (hlock : data.getLsbD 31 = true) : crWrite s data = crLockStep s :=
  if_pos hlock

theorem crWrite_of_noStart (hlock : data.getLsbD 31 = false) (hstrt : data.getLsbD 16 = false) :
    crWrite s data = crStoreStep s data := by
  simp only [crWrite, hlock, hstrt, Bool.false_eq_true, if_false]

/-- A start while locked stores the word and raises V1 (rule R83). -/
theorem crWrite_of_startLocked (hl : s.locked = true) (hlock : data.getLsbD 31 = false)
    (hstrt : data.getLsbD 16 = true) :
    crWrite s data = crStrtLockedStep (crStoreStep s data) := by
  simp only [crWrite, hlock, hstrt, crStoreStep_locked, hl, Bool.false_eq_true, if_false,
    if_true]

/-- While unlocked, a word without a request bit is stored and dispatches nothing (rule R91). -/
theorem crWrite_of_noRequest (hl : s.locked = false) (hlock : data.getLsbD 31 = false)
    (hper : data.getLsbD 1 = false) (hmer1 : data.getLsbD 2 = false)
    (hmer2 : data.getLsbD 15 = false) : crWrite s data = crStoreStep s data := by
  simp only [crWrite, crDispatch, hlock, crStoreStep_locked, hl, hper, hmer1, hmer2,
    Bool.false_eq_true, if_false, ite_self]

end Branches

/-- Settles O16: the lock branch of a CR write is the sub-operation. -/
theorem lockWriteOnlyLocks : Obligations.LockWriteOnlyLocks := by
  intro s data hs hlock
  refine ⟨rfl, exec_crWrLock hs data, ?_⟩
  rw [exec_crWr hs, exec_crWrLock hs, crWrite_of_lock s hlock]

/-- Settles O17: the store bit by bit, and the two kinds of CR write that do no more. -/
theorem storeKeepsTheLockBit : Obligations.StoreKeepsTheLockBit := by
  intro s data hs hlock
  refine ⟨(crStoreStep s data).done, exec_crWrStore hs data, fun i hi => ?bits, ?lock, rfl,
    fun hstrt => ?noStart, fun hl hper hmer1 hmer2 => ?noRequest⟩
  case bits => exact (getLsbD_storeCr s.cr data (by omega)).trans (if_neg (by omega))
  case lock => exact (getLsbD_storeCr s.cr data (by decide)).trans (if_pos rfl)
  case noStart => rw [exec_crWr hs, crWrite_of_noStart s hlock hstrt]
  case noRequest => rw [exec_crWr hs, crWrite_of_noRequest s hl hlock hper hmer1 hmer2]

/-- Settles O18: the locked branch of a CR write, and the lone sub-operation in both lock states. -/
theorem startWhileLockedIsRefused : Obligations.StartWhileLockedIsRefused := by
  intro s data hs hlock hstrt
  refine ⟨fun hl => ⟨?write, ?locked⟩, fun hl => ?unlocked⟩
  case write =>
    rw [exec_crWr hs, crWrite_of_startLocked s hl hlock hstrt, ← storeCr_of_locked data hl]
    rfl
  case locked =>
    rw [exec_crWrStrtLocked hs, if_pos (show s.locked = true from hl)]
    rfl
  case unlocked =>
    rw [exec_crWrStrtLocked hs, show s.locked = false from hl]
    rfl

/-! ### The erase sub-operations -/

/-- An erase of the `n` bytes at `lo`: `EOP` is set, the bytes become 0xFF, and all else is as
before (rules R84 to R86, R120, R121). -/
def ErasesExactly (s t : State) (lo n : Nat) : Prop :=
  keepsRest s t ∧ t.cr = s.cr ∧ t.tracker = s.tracker ∧ t.sr = s.sr ||| 0x00000001#32 ∧
    writesExactly s t lo n (fun _ => 0xFF#8)

theorem erasesExactly_endOfOperation (s : State) (lo n : Nat) :
    ErasesExactly s (endOfOperation (storeMirrored s lo (.erased n))).done lo n := by
  refine ⟨?rest, ?cr, ?tracker, ?sr, ?range⟩
  case rest => simp [keepsRest, endOfOperation]
  case cr => simp [endOfOperation]
  case tracker => simp [endOfOperation]
  case sr => simp [endOfOperation, setEop]
  case range => exact writesExactly_of_content rfl rfl (writesExactly_storeMirrored s lo (.erased n))

/-- Settles O20: unlocked, the step erases the page that `CR` names. -/
theorem pageEraseErasesExactlyOnePage : Obligations.PageEraseErasesExactlyOnePage := by
  intro s data hs hl _
  refine ⟨(crPerStep s).done, ?_, erasesExactly_endOfOperation s _ _⟩
  rw [exec_crWrPer hs, show s.locked = false from hl]
  rfl

/-- The first medium offset of a logical bank (rules R32, R33). -/
theorem medOff_phys_zero (swap : Bool) :
    medOff (phys swap 0) 0 = (if swap then 0x80000 else 0) ∧
      medOff (phys swap 1) 0 = (if swap then 0 else 0x80000) := by
  cases swap <;> decide

/-- Settles O22: unlocked, each step erases its bank, whose place `swap` gives. -/
theorem massEraseErasesExactlyOneBank : Obligations.MassEraseErasesExactlyOneBank := by
  intro s data hs hl
  obtain ⟨hbank1, hbank2⟩ := medOff_phys_zero s.swap
  refine ⟨fun _ => ⟨(crMer1Step s).done, ?run1, ?erases1⟩,
    fun _ => ⟨(crMer2Step s).done, ?run2, ?erases2⟩⟩
  case run1 =>
    rw [exec_crWrMer1 hs, show s.locked = false from hl]
    rfl
  case erases1 => exact hbank1 ▸ erasesExactly_endOfOperation s _ _
  case run2 =>
    rw [exec_crWrMer2 hs, show s.locked = false from hl]
    rfl
  case erases2 => exact hbank2 ▸ erasesExactly_endOfOperation s _ _

end Sys2Proof.Machine
end

section
/-! PROOFS. The lock state machine (rules R74 to R77, R90): the lock and the stage after each
effect, the table of R90 made of them, and what the table says of the keys. -/

namespace Sys2Proof.Machine

/-! ### The keys -/

/-- Settles O12: the first key toggles the stage, asked either way. -/
theorem firstKeyMovesTheStage : Obligations.FirstKeyMovesTheStage := by
  refine ⟨by decide, fun s hs => ?_⟩
  rw [exec_keyrWrKey1 hs, keyrKey1_eq]
  refine ⟨fun h0 => by rw [h0]; rfl, fun h1 => by rw [h1]; rfl, ?_⟩
  rw [exec_keyrWr hs, if_pos rfl, keyrKey1_eq]

/-- Settles O13: the second key clears `LOCK` at stage 1 alone, asked either way. -/
theorem secondKeyUnlocks : Obligations.SecondKeyUnlocks := by
  refine ⟨by decide, fun s hs => ?_⟩
  rw [exec_keyrWrKey2 hs, keyrKey2_eq]
  refine ⟨fun h1 => by rw [h1]; rfl, fun h0 => by rw [h0]; rfl, ?_⟩
  rw [exec_keyrWr hs, if_neg (by decide), if_pos rfl, keyrKey2_eq]

/-- Settles O14: any other word resets the stage, asked either way. -/
theorem otherKeyResetsTheStage : Obligations.OtherKeyResetsTheStage := by
  intro s data hs h1 h2
  refine ⟨rfl, exec_keyrWrOther hs data, ?_⟩
  rw [exec_keyrWr hs, exec_keyrWrOther hs, if_neg h1, if_neg h2]

/-! ### Lock and stage after each effect -/

/-- The pair that R90's table speaks of: `LOCK` and the stage. -/
def State.lockState (s : State) : Bool × Stage := (s.locked, s.stage)

/-- `LOCK` and the stage are read from `CR` and the stage alone. -/
theorem lockState_congr {s t : State} (hcr : t.cr = s.cr) (hstage : t.stage = s.stage) :
    t.lockState = s.lockState := by
  simp only [State.lockState, State.locked, hcr, hstage]

section LockState
variable (s : State)

theorem keyrKey1_lockState :
    (keyrKey1 s).lockState = (s.locked, if s.stage = .zero then .one else .zero) := by
  rw [keyrKey1_eq]
  rfl

theorem keyrKey2_lockState :
    (keyrKey2 s).lockState = (s.locked && decide (s.stage = .zero), .zero) := by
  rw [keyrKey2_eq]
  cases hstage : s.stage with
  | zero => simp [State.lockState, State.locked]
  | one => simp [State.lockState, State.locked, clearLock]

theorem crLockStep_lockState : (crLockStep s).lockState = (true, .zero) :=
  congrArg (·, Stage.zero) (crLockStep_locked s)

theorem initRegisters_locked : (initRegisters s).locked = true := by
  simp [State.locked]

theorem crStoreStep_lockState (data : Word) : (crStoreStep s data).lockState = s.lockState :=
  congrArg (·, s.stage) (crStoreStep_locked s data)

theorem crPerStep_lockState : (crPerStep s).lockState = s.lockState :=
  lockState_congr (crPerStep_cr s) (crPerStep_stage s)

theorem crMer1Step_lockState : (crMer1Step s).lockState = s.lockState :=
  lockState_congr (crMer1Step_cr s) (crMer1Step_stage s)

theorem crMer2Step_lockState : (crMer2Step s).lockState = s.lockState :=
  lockState_congr (crMer2Step_cr s) (crMer2Step_stage s)

theorem crWrite_lockState (data : Word) :
    (crWrite s data).lockState = if data.getLsbD 31 then (true, .zero) else s.lockState := by
  split
  · rw [crWrite_of_lock s ‹_›, crLockStep_lockState]
  · exact crWrite_induction (fun u v => v.lockState = u.lockState) s data
      (hrefl := fun _ => rfl)
      (htrans := fun _ _ _ huv hvw => hvw.trans huv)
      (hlock := fun hlock => absurd hlock ‹_›)
      (hstore := fun _ => crStoreStep_lockState s data)
      (hviolation := fun _ _ => rfl)
      (hper := fun u _ => crPerStep_lockState u)
      (hmer1 := fun u _ => crMer1Step_lockState u)
      (hmer2 := fun u _ => crMer2Step_lockState u)

/-- An SR write may clear bit 16 of `CR`, which is not `LOCK` (rule R78). -/
theorem srWr_lockState (data : Word) (b : Bool) :
    ((s.setSr (clearFlags s.sr data)).setCr
      (if b then clearStrt s.cr else s.cr)).lockState = s.lockState := by
  cases b with
  | false => rfl
  | true =>
    have hlock : (clearStrt s.cr).getLsbD 31 = s.cr.getLsbD 31 := by
      rw [getLsbD_clearStrt s.cr (by decide)]
      exact Bool.and_true _
    exact congrArg (·, s.stage) hlock

theorem raiseViolation_lockState (cause : ViolationCause) :
    (raiseViolation s cause).lockState = s.lockState := by
  rw [raiseViolation_eq]
  rfl

theorem storeCell_advancePair_lockState (off : FlashOffset) (data : Word) :
    (storeCell (advancePair s off) off.toNat data).lockState = s.lockState :=
  lockState_congr (by simp [storeCell, advancePair_eq]) (by simp [storeCell, advancePair_eq])

end LockState

/-! ### The table of R90 -/

/-- Settles O43: the lock and the stage after each effect, entry by entry of the table. -/
theorem lockStateMachine : Obligations.LockStateMachine := by
  intro i s t hs h ht
  rcases exec_next_cases h with ⟨hs', -⟩ | ⟨-, u, r, hu, rfl⟩
  · simp [hs] at hs'
  change u.lockState = _
  cases hu with
  | acrRd | acrWr | keyrRd | srRd | crRd | unkRd | unkWr | flashRd => rfl
  | keyrWrFirst => exact (keyrKey1_lockState s).trans (if_pos rfl).symm
  | keyrWrSecond =>
    exact (keyrKey2_lockState s).trans ((if_neg (by decide)).trans (if_pos rfl)).symm
  | keyrWrOthers _ _ h1 h2 => exact ((if_neg h1).trans (if_neg h2)).symm
  | keyrWrKey1 => exact keyrKey1_lockState s
  | keyrWrKey2 => exact keyrKey2_lockState s
  | keyrWrOther => rfl
  | srWr _ data => exact srWr_lockState s data _
  | crWr _ data => exact crWrite_lockState s data
  | crWrLock => exact crLockStep_lockState s
  | crWrStore _ data => exact crStoreStep_lockState s data
  | crWrStrtLocked => exact raiseViolation_lockState s _
  | crWrStrtLockedIdle | crWrPerIdle | crWrMer1Idle | crWrMer2Idle => rfl
  | crWrPer => exact crPerStep_lockState s
  | crWrMer1 => exact crMer1Step_lockState s
  | crWrMer2 => exact crMer2Step_lockState s
  | flashWrFails _ _ _ cause => exact raiseViolation_lockState s cause
  | flashWrStores _ off data => exact storeCell_advancePair_lockState s off data
  | reset => exact congrArg (·, Stage.zero) (initRegisters_locked s)
  | detach => cases ht

/-! ### The way out of the lock -/

/-- ATTACH and DETACH leave `LOCK` set (rules R135, R137): an operation that leaves it clear starts
and ends with an instance. -/
theorem attached_of_exec_unlocked {i : Instr} {s t : State} (h : exec i s = .next t)
    (ht : t.locked = false) : s.attached = true ∧ t.attached = true := by
  rcases exec_next_cases h with ⟨-, m, u, -, -, rfl⟩ | ⟨hs, u, r, hu, rfl⟩
  · exact absurd ht (by simp [createInstance, initRegisters_locked])
  · refine ⟨hs, (exec_attached_iff hs h).mpr ?_⟩
    rintro rfl
    cases hu
    exact absurd ht (by simp [State.locked, discardInstance])

theorem stage_eq_zero_iff {stage : Stage} : stage = .zero ↔ stage ≠ .one := by
  cases stage <;> decide

/-- Settles O44: of the entries of R90's table from `LOCK` = 1, only KEY2 at stage 1 has
`LOCK` = 0. -/
theorem onlyTheSecondKeyUnlocks : Obligations.OnlyTheSecondKeyUnlocks := by
  intro i s t hl h ht
  obtain ⟨hs, hta⟩ := attached_of_exec_unlocked h ht
  have htable := congrArg Prod.fst (lockStateMachine i s t hs h hta)
  have hstage (hand : false = (true && decide (s.stage = .zero))) : s.stage = .one :=
    by simpa [stage_eq_zero_iff] using hand
  dsimp only at htable
  rw [ht, hl] at htable
  cases i with
  | keyrWr data =>
    dsimp only at htable
    split_ifs at htable with _ h2
    exact ⟨hstage htable, .inl (h2 ▸ rfl)⟩
  | keyrWrKey2 => exact ⟨hstage htable, .inr rfl⟩
  | crWr data =>
    dsimp only at htable
    split_ifs at htable
  | _ => cases htable

/-! ### Two KEYR writes -/

/-- A KEYR write touches `CR` and the stage alone (rules R75 to R77). -/
theorem exec_keyrWr_frame {s : State} (hs : s.attached = true) (data : Word) :
    ∃ t, exec (.keyrWr data) s = .next t ∧
      t = { s with cr := t.cr, stage := t.stage, response := none } := by
  refine ⟨_, exec_keyrWr hs data, ?_⟩
  split_ifs
  · rw [keyrKey1_eq]; rfl
  · rw [keyrKey2_eq]; rfl
  · rfl

/-- While locked, a KEYR write clears `LOCK` exactly as KEY2 at stage 1, and reaches stage 1 exactly
as KEY1 at stage 0 (rule R90). -/
theorem exec_keyrWr_of_locked {s t : State} {data : Word} (hs : s.attached = true)
    (hl : s.locked = true) (h : exec (.keyrWr data) s = .next t) (ht : t.attached = true) :
    (t.locked = false ↔ s.stage = .one ∧ data = 0xCDEF89AB#32) ∧
      (t.stage = .one ↔ s.stage = .zero ∧ data = 0x45670123#32) := by
  have htable := lockStateMachine (.keyrWr data) s t hs h ht
  dsimp only at htable
  rw [hl] at htable
  by_cases h1 : data = 0x45670123#32
  · rw [if_pos h1] at htable
    obtain ⟨hlock, hstage⟩ := Prod.mk.inj htable
    rw [hlock, hstage, h1]
    cases s.stage <;> decide
  by_cases h2 : data = 0xCDEF89AB#32
  · rw [if_neg h1, if_pos h2] at htable
    obtain ⟨hlock, hstage⟩ := Prod.mk.inj htable
    rw [hlock, hstage, h2]
    cases s.stage <;> decide
  · rw [if_neg h1, if_neg h2] at htable
    obtain ⟨hlock, hstage⟩ := Prod.mk.inj htable
    simp [hlock, hstage, h1, h2]

/-- Settles O15: the first write reaches stage 1 exactly as KEY1 and leaves `LOCK` set, and so the
second unlocks exactly as KEY2 after it. -/
theorem onlyTheKeyPairUnlocks : Obligations.OnlyTheKeyPairUnlocks := by
  intro s a b hs hl h0
  obtain ⟨u, hu, huframe⟩ := exec_keyrWr_frame hs a
  have hua : u.attached = true := by rw [huframe]; exact hs
  obtain ⟨t, ht, htframe⟩ := exec_keyrWr_frame hua b
  have hta : t.attached = true := by rw [htframe]; exact hua
  obtain ⟨hulock, hustage⟩ := exec_keyrWr_of_locked hs hl hu hua
  have hul : u.locked = true := by simpa [h0] using hulock
  obtain ⟨htlock, htstage⟩ := exec_keyrWr_of_locked hua hul ht hta
  have hustage' : u.stage = .one ↔ a = 0x45670123#32 := by simpa [h0] using hustage
  refine ⟨t, ?run, ?unlocks, ?stage, ?frame⟩
  case run => rw [execAll_cons_next _ hu, execAll_cons_next _ ht, execAll_nil]
  case unlocks => rw [htlock, hustage']
  case stage => rw [htstage, stage_eq_zero_iff, Ne, hustage']
  case frame =>
    calc t = { u with cr := t.cr, stage := t.stage, response := none } := htframe
      _ = { s with cr := t.cr, stage := t.stage, response := none } := by rw [huframe]

end Sys2Proof.Machine
end

section
/-! PROOFS. The program path (41_program_path.md): what a flash store that fails a check changes,
what one that passes writes at its translated place, and which operations move the tracker (rules
R100 to R106). -/

namespace Sys2Proof.Machine

/-! ### A store that fails a check -/

theorem followsTracker_iff {tracker : Option FlashOffset} {off : FlashOffset} :
    followsTracker tracker off = true ↔ ∀ p, tracker = some p → off.toNat = p.toNat + 4 := by
  cases tracker with
  | none => simp [followsTracker]
  | some p => simp [followsTracker]

/-- V1 is no cause of a failed store (rule R101). -/
theorem programCheck_ne_startLocked (s : State) (off : FlashOffset) :
    programCheck s off ≠ some .startLocked := by
  unfold programCheck
  split_ifs <;> simp

/-- Every violation but V1 has the one effect of rule R102. -/
theorem raiseViolation_of_ne_startLocked (s : State) {cause : ViolationCause}
    (hcause : cause ≠ .startLocked) :
    raiseViolation s cause = (s.setSr (setProgErr (clearBsy s.sr))).setTracker none := by
  rw [raiseViolation_eq, if_neg hcause, if_neg hcause]

/-- The failure conditions of rule R101 are the ways in which the five checks do not all pass. -/
theorem programCheck_ne_none_iff {s : State} {off : FlashOffset} :
    programCheck s off ≠ none ↔
      s.cr.getLsbD 31 = true ∨ off.toNat % 4 ≠ 0 ∨ s.cr.getLsbD 0 = false ∨
        (∃ p, s.tracker = some p ∧ off.toNat ≠ p.toNat + 4) ∨
        cellAt s off.toNat ≠ 0xFFFFFFFF#32 := by
  rw [Ne, programCheck_eq_none_iff, followsTracker_iff]
  simp only [State.locked, State.programEnabled, not_and_or, not_forall, Bool.not_eq_false,
    Bool.not_eq_true, exists_prop, ne_eq]

/-- Settles O24: a failed check names one of V2 to V6, which all have the same effect. -/
theorem failedStoreChangesNoContent : Obligations.FailedStoreChangesNoContent := by
  intro s off data hs hfails
  obtain ⟨cause, hc⟩ := Option.ne_none_iff_exists'.mp (programCheck_ne_none_iff.mpr hfails)
  have hcause : cause ≠ .startLocked := fun h => programCheck_ne_startLocked s off (h ▸ hc)
  rw [exec_flashWr_of_fails hs data hc, raiseViolation_of_ne_startLocked s hcause]
  rfl

/-! ### A store that passes its checks -/

theorem keepsRest_storeCell_advancePair (s : State) (off : FlashOffset) (v : Word) :
    keepsRest s (storeCell (advancePair s off) off.toNat v).done := by
  simp [keepsRest, storeCell, advancePair_eq]

/-- The word's four bytes, low byte first, go to the translated place alone (rules R34, R44). -/
theorem writesExactly_storeCell_advancePair (s : State) (off : FlashOffset) (v : Word) :
    writesExactly s (storeCell (advancePair s off) off.toNat v).done
      (physOffset s.swap off.toNat) 4 (byteOf v) := by
  have hcontent := advancePair_content s off
  refine writesExactly_of_content hcontent.symm rfl ?_
  rw [← content_swap hcontent]
  exact writesExactly_storeMirrored (advancePair s off) _ (.word v)

/-- What a passing store leaves and writes, whichever word of a pair it is (rule R105). -/
theorem exec_flashWr_writes {s t : State} {off : FlashOffset} {v : Word} (hs : s.attached = true)
    (hc : programCheck s off = none) (h : exec (.flashWr off v) s = .next t) :
    keepsRest s t ∧ writesExactly s t (physOffset s.swap off.toNat) 4 (byteOf v) := by
  rw [exec_flashWr_of_passes hs v hc] at h
  cases h
  exact ⟨keepsRest_storeCell_advancePair s off v, writesExactly_storeCell_advancePair s off v⟩

/-- Settles O25: with no tracker check 4 passes, and the store is a pair's first. -/
theorem firstWordOfAPair : Obligations.FirstWordOfAPair := by
  intro s off data hs hl ha hpg htracker hcell
  have hc : programCheck s off = none :=
    programCheck_eq_none_iff.mpr
      ⟨hl, ha, hpg, followsTracker_iff.mpr (by simp [htracker]), hcell⟩
  obtain ⟨t, ht, hstores, httracker, htsr⟩ := exec_flashWr_first hs hc data htracker
  obtain ⟨hrest, hwrites⟩ := exec_flashWr_writes hs hc ht
  exact ⟨t, ht, hrest, hstores.cr, httracker, htsr, hwrites⟩

/-- Settles O26: one word beyond the tracker check 4 passes, and the store is a pair's second. -/
theorem secondWordOfAPair : Obligations.SecondWordOfAPair := by
  intro s off p data hs hl ha hpg htracker hoff hcell
  have hc : programCheck s off = none :=
    programCheck_eq_none_iff.mpr
      ⟨hl, ha, hpg, followsTracker_iff.mpr (by simp [htracker, hoff]), hcell⟩
  obtain ⟨t, ht, hstores, httracker, htsr⟩ := exec_flashWr_second hs hc data htracker
  obtain ⟨hrest, hwrites⟩ := exec_flashWr_writes hs hc ht
  exact ⟨t, ht, hrest, hstores.cr, httracker, htsr, hwrites⟩

/-! ### Which operations move the tracker -/

@[simp] theorem keyrKey1_tracker (s : State) : (keyrKey1 s).tracker = s.tracker := by
  rw [keyrKey1_eq, setStage_tracker]

@[simp] theorem keyrKey2_tracker (s : State) : (keyrKey2 s).tracker = s.tracker := by
  rw [keyrKey2_eq, setStage_tracker, setCr_tracker]

/-- No part of a CR write touches the tracker, V1 included (rule R83). -/
@[simp] theorem crWrite_tracker (s : State) (data : Word) :
    (crWrite s data).tracker = s.tracker :=
  crWrite_induction (fun u v => v.tracker = u.tracker) s data
    (hrefl := fun _ => rfl)
    (htrans := fun _ _ _ huv hvw => hvw.trans huv)
    (hlock := fun _ => rfl)
    (hstore := fun _ => rfl)
    (hviolation := fun _ _ => rfl)
    (hper := fun u _ => crPerStep_tracker u)
    (hmer1 := fun u _ => crMer1Step_tracker u)
    (hmer2 := fun u _ => crMer2Step_tracker u)

/-- Only the program path, RESET and DETACH have an effect on the tracker. -/
theorem Effect.tracker_moved {i : Instr} {s t : State} (h : Effect i s t)
    (hmoved : t.tracker ≠ s.tracker) :
    i = .reset ∨ i = .detach ∨ ∃ off data, i = .flashWr off data := by
  cases h with
  | reset => exact .inl rfl
  | detach => exact .inr (.inl rfl)
  | flashWrFails _ off data | flashWrStores _ off data => exact .inr (.inr ⟨off, data, rfl⟩)
  | keyrWrFirst | keyrWrKey1 => exact absurd (keyrKey1_tracker s) hmoved
  | keyrWrSecond | keyrWrKey2 => exact absurd (keyrKey2_tracker s) hmoved
  | crWr _ data => exact absurd (crWrite_tracker s data) hmoved
  | crWrPer => exact absurd (crPerStep_tracker s) hmoved
  | crWrMer1 => exact absurd (crMer1Step_tracker s) hmoved
  | crWrMer2 => exact absurd (crMer2Step_tracker s) hmoved
  | _ => exact absurd rfl hmoved

/-- Settles O45: DETACH, the third effect on the tracker, leaves no instance. -/
theorem onlyStoresAndResetMoveTheTracker : Obligations.OnlyStoresAndResetMoveTheTracker := by
  intro i s t hs h ht hmoved
  rcases exec_next_cases h with ⟨hs', -⟩ | ⟨-, u, r, hu, rfl⟩
  · simp [hs] at hs'
  · rcases hu.tracker_moved hmoved with hi | hi | hi
    · exact .inl hi
    · exact absurd hi ((exec_attached_iff hs h).mp ht)
    · exact .inr hi

end Sys2Proof.Machine
end

section
/-! PROOFS. What a flash read answers (rules R37, R44, R134): the bytes at the translated places,
through the word that holds each of them. -/

namespace Sys2Proof.Machine

/-! ### A byte of the flash space -/

theorem byteOf_readWord (m : Memory) (lo : Nat) {k : Nat} (hk : k < 4) :
    byteOf (m.readWord lo) k = m.read (lo + k) := by
  obtain rfl | rfl | rfl | rfl : k = 0 ∨ k = 1 ∨ k = 2 ∨ k = 3 := by omega
  all_goals simp [Memory.readWord]

/-- The translation keeps the place of a byte in its word, since banks are whole words. -/
theorem physOffset_word_add (swap : Bool) (off : Nat) :
    physOffset swap (off - off % 4) + off % 4 = physOffset swap off := by
  have hbank : logicalBank (off - off % 4) = logicalBank off := by
    simp only [logicalBank, Config.bankSize]
    omega
  have hboff : bankOffset (off - off % 4) + off % 4 = bankOffset off := by
    simp only [bankOffset, Config.bankSize]
    omega
  rw [physOffset, physOffset, medOff, medOff, hbank, Nat.add_assoc, hboff]

/-- `Byte(off)` is the bank byte at the translated place (rules R33, R34, R44). -/
theorem flashByte_eq (s : State) (off : Nat) :
    flashByte s off = s.banks.read (physOffset s.swap off) := by
  rw [flashByte, cellAt_eq s _ (by omega), byteOf_readWord _ _ (by omega), physOffset_word_add]

/-! ### The answer of a read -/

/-- `MemRead(off, n)` byte by byte, zero above the width (log 20). -/
theorem byteOf_memRead (s : State) (off : Nat) (n : Width) {k : Nat} (hk : k < 4) :
    byteOf (memRead s off n) k = if k < n.bytes then flashByte s (off + k) else 0x00#8 := by
  obtain rfl | rfl | rfl | rfl : k = 0 ∨ k = 1 ∨ k = 2 ∨ k = 3 := by omega
  all_goals cases n <;> simp [memRead, Width.bytes]

theorem exec_flashRd_beyond {s : State} (hs : s.attached = true) {off : FlashOffset} {n : Width}
    (h : Config.flashSize < off.toNat + n.bytes) :
    exec (.flashRd off n) s = .refused .flashReadPastEnd := by
  simp only [exec, execFlashRd, onInstance_attached s _ hs, if_neg (Nat.not_le.mpr h)]

/-- Settles O29: each byte of the answer is a byte of the flash space, and that is the bank byte at
its translated place. -/
theorem flashReadReturnsTheBytes : Obligations.FlashReadReturnsTheBytes := by
  intro s off n hs
  refine ⟨fun hin => ⟨_, exec_flashRd_inside hs hin, fun k hk => ?_⟩, exec_flashRd_beyond hs⟩
  rw [byteOf_memRead s off.toNat n hk, flashByte_eq]

end Sys2Proof.Machine
end

section
/-! PROOFS. The host's events ATTACH and DETACH (rules R130 to R137, R153): the load, the boot remap
resolver, the rejected media, and the power cycle made of both events. -/

namespace Sys2Proof.Machine

/-! ### The boot remap resolver -/

theorem toNat_ofBytes (b0 b1 b2 b3 : Byte) :
    (ofBytes b0 b1 b2 b3).toNat =
      b3.toNat * 2 ^ 24 + b2.toNat * 2 ^ 16 + b1.toNat * 2 ^ 8 + b0.toNat := by
  have h0 := b0.isLt
  have h1 := b1.isLt
  have h2 := b2.isLt
  simp only [ofBytes, BitVec.toNat_append]
  rw [← Nat.shiftLeft_add_eq_or_of_lt h2, ← Nat.shiftLeft_add_eq_or_of_lt h1,
    ← Nat.shiftLeft_add_eq_or_of_lt h0]
  simp only [Nat.shiftLeft_eq]
  omega

/-- The big-endian reading of a stored word: its lowest byte counts most (rule R35). -/
theorem toNat_be32_readWord (m : Memory) (a : Nat) :
    (be32 (m.readWord a)).toNat =
      (m.read a).toNat * 2 ^ 24 + (m.read (a + 1)).toNat * 2 ^ 16 +
        (m.read (a + 2)).toNat * 2 ^ 8 + (m.read (a + 3)).toNat := by
  simp only [be32, Memory.readWord, byteOf_ofBytes_zero, byteOf_ofBytes_one, byteOf_ofBytes_two,
    byteOf_ofBytes_three, toNat_ofBytes]

/-- The first word of physical bank 1 stands at 0x80000 (rules R33, R132). -/
theorem bootsFromBank1_iff (s : State) :
    bootsFromBank1 s = true ↔
      0x08000000 ≤ (be32 (s.banks.readWord 0x80000)).toNat ∧
        (be32 (s.banks.readWord 0x80000)).toNat < 0x08080000 := by
  simp [bootsFromBank1, bankWord, medOff]

/-! ### The instance an ATTACH creates -/

section CreateInstance
variable (s : State)

@[simp] theorem createInstance_attached : (createInstance s).attached = true := rfl
@[simp] theorem createInstance_cr : (createInstance s).cr = 0x80000000#32 := rfl
@[simp] theorem createInstance_sr : (createInstance s).sr = 0x00000000#32 := rfl
@[simp] theorem createInstance_stage : (createInstance s).stage = .zero := rfl
@[simp] theorem createInstance_tracker : (createInstance s).tracker = none := rfl
@[simp] theorem createInstance_banks : (createInstance s).banks = s.medium := rfl
@[simp] theorem createInstance_medium : (createInstance s).medium = s.medium := rfl
@[simp] theorem createInstance_mediumReplies :
    (createInstance s).mediumReplies = s.mediumReplies := rfl
@[simp] theorem createInstance_mediumFailures :
    (createInstance s).mediumFailures = s.mediumFailures := rfl
@[simp] theorem createInstance_requests : (createInstance s).requests = s.requests := rfl

/-- The resolver reads the bank that the load has just filled from the medium (rules R131, R132). -/
theorem createInstance_swap_iff :
    (createInstance s).swap = true ↔
      0x08000000 ≤ (be32 (s.medium.readWord 0x80000)).toNat ∧
        (be32 (s.medium.readWord 0x80000)).toNat < 0x08080000 :=
  bootsFromBank1_iff (load s)

end CreateInstance

/-! ### ATTACH -/

section Attach
variable {s : State} (hs : s.attached = false)
include hs

/-- With no instance ATTACH comes to the three tests of the medium (rule R130). -/
theorem exec_attach_detached (m : MediumArg) : exec (.attach m) s = attachMedium s m := by
  simp [exec, execAttach, hs]

/-- A medium that passes the three tests makes an instance of its content (rule R130). -/
theorem exec_attach_of_source {m : MediumArg} {u : State} (h : AttachSource m s u) :
    exec (.attach m) s = .next (createInstance u).done := by
  rw [exec_attach_detached hs]
  cases h <;> rfl

end Attach

/-- The held medium and a good image alike are a medium with the given content. -/
theorem attachSource_withMedium {s : State} {m : MediumArg} {content : Memory}
    (h : (m = .same ∧ content = s.medium) ∨ m = .image true 0x100000 content) :
    AttachSource m s (s.withMedium content) := by
  rcases h with ⟨rfl, rfl⟩ | rfl
  · exact .same s
  · exact .image s content

/-- Settles O30: the load copies the medium, and the resolver reads the copy. -/
theorem attachLoadsAndResolves : Obligations.AttachLoadsAndResolves := by
  intro s m content hs hm
  refine ⟨_, exec_attach_of_source hs (attachSource_withMedium hm), ?_⟩
  simp [createInstance_swap_iff, toNat_be32_readWord]

/-- Settles O31: each bad medium fails its own test, in the order of R130. -/
theorem attachRejectsABadMedium : Obligations.AttachRejectsABadMedium := by
  intro s size content hs
  refine ⟨exec_attach_detached hs _, exec_attach_detached hs _, fun hsize => ?_⟩
  simp [exec_attach_detached hs, attachMedium, hsize]

/-! ### DETACH and the power cycle -/

section DiscardInstance
variable (s : State)

@[simp] theorem discardInstance_attached : (discardInstance s).attached = false := rfl
@[simp] theorem discardInstance_medium : (discardInstance s).medium = s.medium := rfl
@[simp] theorem discardInstance_mediumReplies :
    (discardInstance s).mediumReplies = s.mediumReplies := rfl
@[simp] theorem discardInstance_mediumFailures :
    (discardInstance s).mediumFailures = s.mediumFailures := rfl
@[simp] theorem discardInstance_requests : (discardInstance s).requests = s.requests := rfl

end DiscardInstance

theorem exec_detach {s : State} (hs : s.attached = true) :
    exec .detach s = .next (discardInstance s).done :=
  onInstance_attached s _ hs

/-- Settles O34: an instance is discarded without a medium write. -/
theorem detachLeavesTheMedium : Obligations.DetachLeavesTheMedium :=
  fun _ hs => ⟨_, exec_detach hs, by simp⟩

/-- DETACH leaves the medium to the ATTACH that follows it (rule R136). -/
theorem execAll_powerCycle {s : State} (hs : s.attached = true) :
    execAll [.detach, .attach .same] s =
      .next (createInstance (discardInstance s).done).done := by
  rw [execAll_cons_next _ (exec_detach hs),
    execAll_cons_next _ (exec_attach_of_source rfl (.same (discardInstance s).done)), execAll_nil]

/-- Settles O35: the new banks are the medium's copy, and the medium was the old banks' mirror. -/
theorem powerCycleRestoresTheBanks : Obligations.PowerCycleRestoresTheBanks := by
  intro s hs hmirror
  refine ⟨_, execAll_powerCycle hs, ?_⟩
  simpa using hmirror hs

end Sys2Proof.Machine
end

section
/-! PROOFS. The event RESET (rules R170, R171): the four registers take their reset values, and the
rest of an instance stays. -/

namespace Sys2Proof.Machine

theorem exec_reset {s : State} (hs : s.attached = true) :
    exec .reset s = .next (initRegisters s).done :=
  onInstance_attached s _ hs

/-- The whole effect of RESET as one update: only the four registers and the answer are written
(rules R170, R171). -/
theorem initRegisters_done (s : State) :
    (initRegisters s).done = { s with
      cr := 0x80000000#32, sr := 0x00000000#32, stage := .zero, tracker := none,
      response := none } := rfl

/-- Settles O33: RESET has the event code 1, and on an instance it is the reset of the registers
without an answer. -/
theorem resetSetsRegistersOnly : Obligations.ResetSetsRegistersOnly := by
  refine ⟨rfl, rfl, fun s hs => ?_⟩
  rw [exec_reset hs, initRegisters_done]

end Sys2Proof.Machine
end
